-- ==== Sys2Proof/Word.lean ====
section
/-! DEFINITION. The widths of the block's values (spec/00_scope.md R7, R8; spec/10_state.md R41) and the closed sets of
names the spec uses: the two instances, the three axes, the framer's phases, the ten sensor registers. -/

namespace Sys2Proof

/-- An 8-bit value: a byte on the serial link or a sensor register (R7 W_SREG, R56). -/
abbrev Byte := BitVec 8

/-- A 32-bit value: a flash command word or a read-data word (R7 W_CMD, W_RDATA). -/
abbrev Word := BitVec 32

/-- A sensor register address, 7 bits (R7 W_SADDR, R50). -/
abbrev Addr7 := BitVec 7

/-- A raw sample, 16 bits, two's complement (R7 W_RAW, R116). -/
abbrev Raw := BitVec 16

/-- The two instances of the block (R2). -/
inductive Instance
  | sensor
  | flash
  deriving DecidableEq, Repr

/-- The sensor's axes (R30). -/
inductive Axis
  | x
  | y
  | z
  deriving DecidableEq, Repr

/-- The halves of an axis's 16-bit raw code: `_L` reads bits 7:0, `_H` bits 15:8 (R28, R54). -/
inductive Half
  | low
  | high
  deriving DecidableEq, Repr

/-- The framer's phase (R21, C1): what the next byte is. -/
inductive Phase
  | idle
  | reading
  | writing
  deriving DecidableEq, Repr

/-- The ten sensor registers (R23); `out a h` are OUT_X_L, OUT_X_H, OUT_Y_L, OUT_Y_H, OUT_Z_L and OUT_Z_H. -/
inductive SReg
  | whoami
  | ctrl4
  | ctrl5
  | status
  | out (a : Axis) (h : Half)
  deriving DecidableEq, Repr

/-- The ten names of R23, once each. -/
def SReg.all : List SReg :=
  [.whoami, .ctrl4, .ctrl5, .status, .out .x .low, .out .x .high, .out .y .low, .out .y .high, .out .z .low, .out .z .high]

end Sys2Proof
end

