-- ==== Sys2Proof/Machine/Literals.lean ====
section
/-! DEFINITION. The spec's numeric literals, each a named constant in one place: spec/93_implementation_defined.md calls
them unaudited and asks for this, so that a correction touches one line. -/

namespace Sys2Proof.Literal

/-- WHOAMI's value, at reset and at every read (R24, R112). -/
def whoami : Byte := 0x3F#8

/-- CTRL4 after reset (R25). -/
def ctrl4Reset : Byte := 0x43#8

/-- CTRL5 after reset (R26). -/
def ctrl5Reset : Byte := 0x00#8

/-- STATUS after reset before any recomputation, whose bits outside the DA flags STATUS keeps for ever (R27). -/
def statusReset : Byte := 0x08#8

/-- What an unmapped sensor address reads as (R29, R112). -/
def unmappedRead : Byte := 0x00#8

/-- The flash status register's power-on default (R34), restored by FL_EXITCM (R142). -/
def fstatusReset : Byte := 0x00#8

/-- `lastCmd` after reset (R35). -/
def lastCmdReset : Word := 0x00000000#32

/-- WriteEnable (R74). -/
def opWren : Byte := 0x06#8

/-- ExitContinuousMode (R74). -/
def opExitcm : Byte := 0xFF#8

/-- ReadID (R74). -/
def opRdid : Byte := 0x9F#8

/-- The identification sentinel (R147). -/
def idSentinel : Word := 0xFFFFFFFF#32

/-- The sensitivity at full-scale selector 0, in milli-g per LSB (R32). -/
def sens0 : Rat := 2

/-- ACCEL_MIN, the least valid engineering value, in g, inclusive (R7, R118). -/
def accelMin : Rat := -19

/-- ACCEL_MAX, the greatest valid engineering value, in g, inclusive (R7, R118). -/
def accelMax : Rat := 19

end Sys2Proof.Literal
end

