-- ==== Sys2Proof/Config.lean ====
section
/-! DEFINITION. The block's parameters (spec/00_scope.md R7) and its free values (R12). A parameter the spec leaves OPEN
is part of `Config.params`, a constant WITHOUT A BODY: every proof holds for every value the structures below admit. The
structures' proof fields are what the spec (or a log entry) says of the parameters, and nothing more. Their default
values are the ILLUSTRATIVE set P_ILL of R7, which the spec marks as general knowledge: they show that the constraints
can be met and serve the spec's test vectors; nothing about the machine assumes them. -/

namespace Sys2Proof

/-- P_CTRL4_LAYOUT (R7, R25): where RATE (a field of `rateWidth` bits from bit `rateLo` up), XEN, YEN and ZEN stand.
DEDUCED (log 4): RATE is one run of bits, and the fields do not overlap. -/
structure Ctrl4Layout where
  rateLo : Nat := 4
  rateWidth : Nat := 4
  xen : Fin 8 := 0
  yen : Fin 8 := 1
  zen : Fin 8 := 2
  rate_nonempty : 0 < rateWidth := by decide
  rate_fits : rateLo + rateWidth ≤ 8 := by decide
  enables_distinct : xen ≠ yen ∧ xen ≠ zen ∧ yen ≠ zen := by decide
  enables_outside_rate : ∀ e ∈ [xen, yen, zen], e.val < rateLo ∨ rateLo + rateWidth ≤ e.val := by decide
  deriving Inhabited

/-- The enable bit's position of each axis. -/
def Ctrl4Layout.enableBit (L : Ctrl4Layout) : Axis → Fin 8
  | .x => L.xen
  | .y => L.yen
  | .z => L.zen

/-- P_CTRL5_LAYOUT (R7, R26): the lowest bit of the 3-bit field FS. -/
structure Ctrl5Layout where
  fsLo : Nat := 3
  fs_fits : fsLo + 3 ≤ 8 := by decide
  deriving Inhabited

/-- P_STATUS_LAYOUT (R7, R27): where XDA, YDA, ZDA and ZYXDA stand. R27 counts four DA bits and four others, so the
positions are distinct (DEDUCED, log 4). -/
structure StatusLayout where
  xda : Fin 8 := 0
  yda : Fin 8 := 1
  zda : Fin 8 := 2
  zyxda : Fin 8 := 3
  distinct : [xda, yda, zda, zyxda].Nodup := by decide
  deriving Inhabited

/-- P_STATUS_RESET_POLICY (R7, R27, C4, D16). -/
inductive StatusResetPolicy
  | literal
  | recomputed
  deriving DecidableEq, Repr, Inhabited

/-- The illustrative P_SENSOR_MAP of R7. -/
def illustrativeMap : SReg → Addr7
  | .whoami => 0x0F
  | .ctrl4 => 0x20
  | .ctrl5 => 0x24
  | .status => 0x27
  | .out .x .low => 0x28
  | .out .x .high => 0x29
  | .out .y .low => 0x2A
  | .out .y .high => 0x2B
  | .out .z .low => 0x2C
  | .out .z .high => 0x2D

/-- The illustrative P_SENS_TABLE of R7, in milli-g per LSB; the spec gives selectors 5 to 7 no illustrative value, and
the 16 that stands there says nothing. -/
def illustrativeSens (fs : BitVec 3) : Rat :=
  if fs = 0 then Literal.sens0 else if fs = 1 then 4 else if fs = 2 then 6 else if fs = 3 then 8 else 16

/-- P_ENCODE_ILL of R117: `trunc_16(tz(v × 1000 / s))`, `tz` rounding toward zero; for test vectors only. -/
def illustrativeEncode (v s : Rat) : Raw :=
  BitVec.ofInt 16 ((v * 1000 / s).num.tdiv (v * 1000 / s).den)

/-- `Decode` of R123: the meaning in g of a raw code at sensitivity `s`. The block never computes it. -/
def decodeRaw (raw : Raw) (s : Rat) : Rat := raw.toInt * s / 1000

/-- (E3) of R117: a 1.0 g value encoded at sensitivity 2 decodes to within 0.002 g of 1.0. -/
def EncodeRoundTrip (enc : Rat → Rat → Raw) : Prop :=
  |decodeRaw (enc 1 Literal.sens0) Literal.sens0 - 1| ≤ mkRat 2 1000

/-- P_ENCODE_ILL meets (E3), as R117 says. -/
theorem illustrativeEncode_roundTrip : EncodeRoundTrip illustrativeEncode := by
  unfold EncodeRoundTrip; decide +kernel

/-- The parameters of R7 whose values the spec leaves OPEN, with the constraints it puts on them. -/
structure Params where
  /-- P_SENSOR_MAP (R23, D9): ten names to ten distinct 7-bit addresses. -/
  addr : SReg → Addr7 := illustrativeMap
  addr_inj : ∀ r q, addr r = addr q → r = q := by
    rintro (_ | _ | _ | _ | ⟨_ | _ | _, _ | _⟩) (_ | _ | _ | _ | ⟨_ | _ | _, _ | _⟩) <;> decide
  ctrl4 : Ctrl4Layout := {}
  ctrl5 : Ctrl5Layout := {}
  status : StatusLayout := {}
  resetPolicy : StatusResetPolicy := .literal
  /-- P_SENS_TABLE (R32, D18): entry 0 is 2 mg/LSB and every entry is positive. -/
  sens : BitVec 3 → Rat := illustrativeSens
  sens_zero : sens 0 = Literal.sens0 := by decide
  sens_pos : ∀ fs, 0 < sens fs := by decide
  /-- P_ENCODE (R117, D19), total, a function of its two arguments (E1, E2), with (E3). -/
  encode : Rat → Rat → Raw := illustrativeEncode
  encode_roundTrip : EncodeRoundTrip encode := by exact illustrativeEncode_roundTrip
  /-- P_FLASH_CMD_OFFSET and P_FLASH_RDATA_OFFSET (R52, D23), distinct. -/
  cmdOffset : Nat := 0
  rdataOffset : Nat := 4
  offsets_distinct : cmdOffset ≠ rdataOffset := by decide
  /-- P_OP_RDSR (R75, D25, D44): none of the three opcodes the source gives. -/
  opRdsr : Byte := 0x05
  opRdsr_distinct : opRdsr ≠ Literal.opWren ∧ opRdsr ≠ Literal.opExitcm ∧ opRdsr ≠ Literal.opRdid := by decide
  deriving Inhabited

/-- The set P_ILL of spec/95_test_vectors.md, with P_STATUS_RESET_POLICY as named; for tests only. -/
def Params.illustrative (policy : StatusResetPolicy) : Params where
  resetPolicy := policy

/-- The block's parameters: no body, so nothing is known of them but the proof fields of `Params` (log 3). -/
opaque Config.params : Params

/-- A drawn byte (R9 `draw_8`, R12): the response to an address byte or a write data byte (R94, R95, R111). Applied to
the instance's count of draws (log 5). -/
opaque Config.freeByte : Nat → Byte

/-- A drawn word (R9 `draw_32`, R12): the read-data response that no rule fixes (R147), log 5. -/
opaque Config.freeWord : Nat → Word

/-- The unspecified value of `target` after reset and after deselection (R22, R91, R180), log 6. -/
opaque Config.freeAddr : Nat → Addr7

/-- A drawn rational; `Machine.drawAccel` brings it into the valid range for an axis value at reset (R30, R180), log 7. -/
opaque Config.freeAccel : Nat → Rat

end Sys2Proof
end

