-- ==== Sys2Proof/Syntax.lean ====
section
/-! DEFINITION. The instructions: one constructor per row of spec/opcode_table.json; and the host events that carry them
(spec/30_encoding.md R80, R81). -/

namespace Sys2Proof

/-- One constructor per row of spec/opcode_table.json. The four SPI rows are bytes (R71, R72), the five FL rows are
command words (R73, R74), the others are host events (R80). -/
inductive Instr
  /-- SPI_ADDR_RD: an address byte with RW = 1 and address `a` (R94). -/
  | spiAddrRd (a : Addr7)
  /-- SPI_ADDR_WR: an address byte with RW = 0 and address `a` (R95). -/
  | spiAddrWr (a : Addr7)
  /-- SPI_DATA_RD: a data byte in phase Reading; its value `d` is ignored (R110). -/
  | spiDataRd (d : Byte)
  /-- SPI_DATA_WR: a data byte in phase Writing, storing `d` (R111). -/
  | spiDataWr (d : Byte)
  /-- FL_WREN: the command word `arg ++ 0x06` (R141). -/
  | flWren (arg : BitVec 24)
  /-- FL_EXITCM: the command word `arg ++ 0xFF` (R142). -/
  | flExitcm (arg : BitVec 24)
  /-- FL_RDID: the command word `arg ++ 0x9F` (R143). -/
  | flRdid (arg : BitVec 24)
  /-- FL_RDSR: the command word `arg ++ P_OP_RDSR` (R144). -/
  | flRdsr (arg : BitVec 24)
  /-- FL_UNIMPL: the command word `arg ++ op` with any other opcode `op` (R145). -/
  | flUnimpl (arg : BitVec 24) (op : Byte)
  /-- CS_ASSERT: chip-select assertion (R90), delivered to `i` (R149). -/
  | csAssert (i : Instance)
  /-- CS_DEASSERT: chip-select deassertion (R91), delivered to `i` (R149). -/
  | csDeassert (i : Instance)
  /-- FINISH: the finish-transmission signal (R92), delivered to `i` (R149). -/
  | finish (i : Instance)
  /-- WCMD: a 32-bit write of `w` to the flash command register (R140). -/
  | wcmd (w : Word)
  /-- RDATA: a 32-bit read of the flash read-data register (R146). -/
  | rdata
  /-- SETACC: set axis `a`'s engineering value to `v` g (R118). -/
  | setacc (a : Axis) (v : Rat)
  /-- SETEN: set axis `a`'s enable to `e` (R119). -/
  | seten (a : Axis) (e : Bool)
  /-- GETSENS: read the current sensitivity (R121). -/
  | getsens
  /-- RESET: reset the instance `i` (R180). -/
  | reset (i : Instance)
  deriving DecidableEq, Repr

/-- The events of the SENSOR instance (R81). -/
inductive SensorEvent
  | cs (level : Bool)
  | finish
  | xfer (b : Byte)
  | setacc (a : Axis) (v : Rat)
  | seten (a : Axis) (e : Bool)
  | getsens
  | reset
  deriving DecidableEq, Repr

/-- The data of a register-bus write, whose constructor is its width (R53, log 14). -/
inductive BusData
  | b8 (v : BitVec 8)
  | b16 (v : BitVec 16)
  | b32 (v : Word)
  | b64 (v : BitVec 64)
  deriving DecidableEq, Repr

/-- The width of a register-bus read (R53, log 14). -/
inductive BusWidth
  | w8
  | w16
  | w32
  | w64
  deriving DecidableEq, Repr

/-- The events of the FLASH instance (R81). `wcmd w` is `MemWrite(P_FLASH_CMD_OFFSET, 4, w)` and `rdata` is
`MemRead(P_FLASH_RDATA_OFFSET, 4)` (R80); `memWrite` and `memRead` are accesses at an offset the host names (R53). -/
inductive FlashEvent
  | cs (level : Bool)
  | finish
  | xfer (b : Byte)
  | wcmd (w : Word)
  | rdata
  | memWrite (off : Nat) (d : BusData)
  | memRead (off : Nat) (width : BusWidth)
  | reset
  deriving DecidableEq, Repr

/-- A host event, addressed to one of the two instances (R2, R81, log 1). -/
inductive HostEvent
  | sensor (e : SensorEvent)
  | flash (e : FlashEvent)
  deriving DecidableEq, Repr

/-- The instance an event is delivered to. -/
def HostEvent.target : HostEvent → Instance
  | .sensor _ => .sensor
  | .flash _ => .flash

end Sys2Proof
end

