-- ==== Sys2Proof/WellFormed.lean ====
section
/-! DEFINITION. Which instruction terms are instructions of the block (spec/30_encoding.md R77). Every operand value is
admitted but one kind: an FL_UNIMPL whose opcode belongs to another row (R74, R76). -/

namespace Sys2Proof

/-- The opcodes of R74's first four rows. -/
def implementedOpcode (P : Params) (op : Byte) : Bool :=
  op == Literal.opWren || op == Literal.opExitcm || op == Literal.opRdid || op == P.opRdsr

/-- `i` is an instruction: the opcode of an FL_UNIMPL word matches no other row (R74, R76). -/
def Instr.wf (P : Params) : Instr → Bool
  | .spiAddrRd _ => true
  | .spiAddrWr _ => true
  | .spiDataRd _ => true
  | .spiDataWr _ => true
  | .flWren _ => true
  | .flExitcm _ => true
  | .flRdid _ => true
  | .flRdsr _ => true
  | .flUnimpl _ op => !implementedOpcode P op
  | .csAssert _ => true
  | .csDeassert _ => true
  | .finish _ => true
  | .wcmd _ => true
  | .rdata => true
  | .setacc _ _ => true
  | .seten _ _ => true
  | .getsens => true
  | .reset _ => true

end Sys2Proof
end

