-- ==== Sys2Proof/Decode.lean ====
section
/-! DEFINITION. Decoding (spec/30_encoding.md), total: a byte is decoded by the framer's phase (R72), a command word by
its low byte (R74), a host event by its name (R80); then the encoder, written from the same tables; then the opcode
table's patterns. -/

namespace Sys2Proof

/-- Why a host event is no instruction: the refusal reasons of R161, by name. -/
inductive Reject
  /-- RF_FLASH_SERIAL: a serial-transport byte delivered to FLASH (R149). -/
  | flashSerial
  /-- RF_FLASH_ACCESS: a register-bus access other than the two 32-bit ones (R53). -/
  | flashAccess
  deriving DecidableEq, Repr

/-- What decoding answers: an instruction, or a refusal by name. -/
inductive Decoded
  | instr (i : Instr)
  | reject (r : Reject)
  deriving DecidableEq, Repr

/-- The opcode field OP of a command word, bits 7:0 (R73). -/
def opOf (w : Word) : Byte := w.extractLsb' 0 8

/-- The field ARG of a command word, bits 31:8 (R73). -/
def argOf (w : Word) : BitVec 24 := w.extractLsb' 8 24

/-- The field RW of an address byte, bit 7 (R71). -/
def rwOf (b : Byte) : Bool := b.getLsbD 7

/-- The field A of an address byte, bits 6:0 (R71). -/
def addrOf (b : Byte) : Addr7 := b.extractLsb' 0 7

/-- A byte delivered to SENSOR: its kind is fixed by the phase alone, and in Idle by bit 7 (R71, R72, R93). -/
def decodeByte (ph : Phase) (b : Byte) : Instr :=
  match ph with
  | .idle => if rwOf b then .spiAddrRd (addrOf b) else .spiAddrWr (addrOf b)
  | .reading => .spiDataRd b
  | .writing => .spiDataWr b

/-- A command word written to FLASH: the opcode map of R74, on bits 7:0 only. -/
def decodeWord (P : Params) (w : Word) : Instr :=
  if opOf w = Literal.opWren then .flWren (argOf w)
  else if opOf w = Literal.opExitcm then .flExitcm (argOf w)
  else if opOf w = Literal.opRdid then .flRdid (argOf w)
  else if opOf w = P.opRdsr then .flRdsr (argOf w)
  else .flUnimpl (argOf w) (opOf w)

/-- A register-bus write to FLASH: WCMD when it is 32 bits wide at the command offset (R52), refused otherwise (R53). -/
def decodeMemWrite (P : Params) (off : Nat) : BusData → Decoded
  | .b8 _ => .reject .flashAccess
  | .b16 _ => .reject .flashAccess
  | .b32 w => if off = P.cmdOffset then .instr (.wcmd w) else .reject .flashAccess
  | .b64 _ => .reject .flashAccess

/-- A register-bus read of FLASH: RDATA when it is 32 bits wide at the read-data offset (R52), refused otherwise (R53). -/
def decodeMemRead (P : Params) (off : Nat) : BusWidth → Decoded
  | .w8 => .reject .flashAccess
  | .w16 => .reject .flashAccess
  | .w32 => if off = P.rdataOffset then .instr .rdata else .reject .flashAccess
  | .w64 => .reject .flashAccess

/-- An event of SENSOR, in the framer's phase `ph` (R80, R81, R93). -/
def decodeSensorEvent (ph : Phase) : SensorEvent → Instr
  | .cs true => .csAssert .sensor
  | .cs false => .csDeassert .sensor
  | .finish => .finish .sensor
  | .xfer b => decodeByte ph b
  | .setacc a v => .setacc a v
  | .seten a e => .seten a e
  | .getsens => .getsens
  | .reset => .reset .sensor

/-- An event of FLASH (R80, R81); XFER has no meaning there (R149). -/
def decodeFlashEvent (P : Params) : FlashEvent → Decoded
  | .cs true => .instr (.csAssert .flash)
  | .cs false => .instr (.csDeassert .flash)
  | .finish => .instr (.finish .flash)
  | .xfer _ => .reject .flashSerial
  | .wcmd w => .instr (.wcmd w)
  | .rdata => .instr .rdata
  | .memWrite off d => decodeMemWrite P off d
  | .memRead off width => decodeMemRead P off width
  | .reset => .instr (.reset .flash)

/-- A host event, in the framer's phase `ph`: the event's instruction, or why it has none. -/
def decodeEvent (P : Params) (ph : Phase) : HostEvent → Decoded
  | .sensor e => .instr (decodeSensorEvent ph e)
  | .flash e => decodeFlashEvent P e

/-- An instruction's encoding: a serial byte (formats SADDR, SDATA), a command word (format FCMD) or a host event. -/
inductive Code
  | byte (b : Byte)
  | word (w : Word)
  | event (e : HostEvent)
  deriving DecidableEq, Repr

/-- Decoding of an encoding of any kind, in the framer's phase `ph`. -/
def decode (P : Params) (ph : Phase) : Code → Decoded
  | .byte b => .instr (decodeByte ph b)
  | .word w => .instr (decodeWord P w)
  | .event e => decodeEvent P ph e

/-! ### The encoder -/

/-- An address byte: RW in bit 7, A in bits 6:0 (R71). -/
def addressByte (rw : Bool) (a : Addr7) : Byte := BitVec.ofBool rw ++ a

/-- A command word: ARG in bits 31:8, OP in bits 7:0 (R73). -/
def commandWord (arg : BitVec 24) (op : Byte) : Word := arg ++ op

/-- The phase in which a byte is this instruction (R72); any phase will do for an instruction that is no byte, and the
answer there is Idle. -/
def Instr.phase : Instr → Phase
  | .spiAddrRd _ => .idle
  | .spiAddrWr _ => .idle
  | .spiDataRd _ => .reading
  | .spiDataWr _ => .writing
  | .flWren _ => .idle
  | .flExitcm _ => .idle
  | .flRdid _ => .idle
  | .flRdsr _ => .idle
  | .flUnimpl _ _ => .idle
  | .csAssert _ => .idle
  | .csDeassert _ => .idle
  | .finish _ => .idle
  | .wcmd _ => .idle
  | .rdata => .idle
  | .setacc _ _ => .idle
  | .seten _ _ => .idle
  | .getsens => .idle
  | .reset _ => .idle

/-- An instruction's encoding (R71 to R74, R80). -/
def encode (P : Params) : Instr → Code
  | .spiAddrRd a => .byte (addressByte true a)
  | .spiAddrWr a => .byte (addressByte false a)
  | .spiDataRd d => .byte d
  | .spiDataWr d => .byte d
  | .flWren arg => .word (commandWord arg Literal.opWren)
  | .flExitcm arg => .word (commandWord arg Literal.opExitcm)
  | .flRdid arg => .word (commandWord arg Literal.opRdid)
  | .flRdsr arg => .word (commandWord arg P.opRdsr)
  | .flUnimpl arg op => .word (commandWord arg op)
  | .csAssert .sensor => .event (.sensor (.cs true))
  | .csAssert .flash => .event (.flash (.cs true))
  | .csDeassert .sensor => .event (.sensor (.cs false))
  | .csDeassert .flash => .event (.flash (.cs false))
  | .finish .sensor => .event (.sensor .finish)
  | .finish .flash => .event (.flash .finish)
  | .wcmd w => .event (.flash (.wcmd w))
  | .rdata => .event (.flash .rdata)
  | .setacc a v => .event (.sensor (.setacc a v))
  | .seten a e => .event (.sensor (.seten a e))
  | .getsens => .event (.sensor .getsens)
  | .reset .sensor => .event (.sensor .reset)
  | .reset .flash => .event (.flash .reset)

/-! ### The opcode table's patterns -/

/-- A row's pattern in spec/opcode_table.json: an encoding matches where it agrees with `value` under `mask`. -/
inductive Pattern
  | byte (value mask : Byte)
  | word (value mask : Word)
  | event
  deriving DecidableEq, Repr

/-- The columns `match` and `mask` of the instruction's row; an event's row has none. -/
def Instr.pattern (P : Params) : Instr → Pattern
  | .spiAddrRd _ => .byte 0x80 0x80
  | .spiAddrWr _ => .byte 0x00 0x80
  | .spiDataRd _ => .byte 0x00 0x00
  | .spiDataWr _ => .byte 0x00 0x00
  | .flWren _ => .word 0x00000006 0x000000FF
  | .flExitcm _ => .word 0x000000FF 0x000000FF
  | .flRdid _ => .word 0x0000009F 0x000000FF
  | .flRdsr _ => .word (P.opRdsr.setWidth 32) 0x000000FF
  | .flUnimpl _ _ => .word 0x00000000 0x00000000
  | .csAssert _ => .event
  | .csDeassert _ => .event
  | .finish _ => .event
  | .wcmd _ => .event
  | .rdata => .event
  | .setacc _ _ => .event
  | .seten _ _ => .event
  | .getsens => .event
  | .reset _ => .event

/-- The encoding `c` has the form and the fixed bits of the pattern `p`. -/
def Pattern.Matches (p : Pattern) (c : Code) : Prop :=
  match p, c with
  | .byte value mask, .byte b => b &&& mask = value
  | .word value mask, .word w => w &&& mask = value
  | .event, .event _ => True
  | _, _ => False

/-! ### The host's numbering -/

/-- The instruction read from a table word (log 12): 8 bits are a serial byte in phase Idle, where it is an address
byte; 32 bits are a flash command word. A host event's row has no bits. -/
def decodeTableWord (nbits w : Nat) : Option Instr :=
  if nbits = 8 then some (decodeByte .idle (BitVec.ofNat 8 w))
  else if nbits = 32 then some (decodeWord Config.params (BitVec.ofNat 32 w))
  else none

end Sys2Proof
end

