-- ==== Sys2Proof/Machine/Bits.lean ====
section
/-! DEFINITION. Bit-field helpers over a register byte (spec/00_scope.md R8). -/

namespace Sys2Proof.Machine

/-- `v` with bit `i` set to `b`, the other bits unchanged. -/
def setBit (v : Byte) (i : Fin 8) (b : Bool) : Byte :=
  if b then v ||| (1#8 <<< i.val) else v &&& ~~~(1#8 <<< i.val)

/-- The field `v[lo+width-1 : lo]` as an unsigned value (R8). -/
def field (v : Byte) (lo width : Nat) : Nat := (v.extractLsb' lo width).toNat

/-- A half of a raw code: bits 7:0 or bits 15:8 (R28, R54). -/
def halfOf : Half → Raw → Byte
  | .low, raw => raw.extractLsb' 0 8
  | .high, raw => raw.extractLsb' 8 8

end Sys2Proof.Machine
end

