-- ==== Sys2Proof/Machine/Flags.lean ====
section
/-! DEFINITION. The flags of the block: the sensor's data-available flags, computed from CTRL4 and stored in STATUS
(spec/41_sensor_commands.md R114, spec/10_state.md R25, R27), and the fields of the flash status register (R34). -/

namespace Sys2Proof.Machine

/-- RATE of a CTRL4 value (R25). -/
def rate (P : Params) (c : Byte) : Nat := field c P.ctrl4.rateLo P.ctrl4.rateWidth

/-- The enable bit of axis `a` in a CTRL4 value (R25, R31). -/
def enabled (P : Params) (a : Axis) (c : Byte) : Bool := c.getLsbD (P.ctrl4.enableBit a)

/-- FS of a CTRL5 value (R26). -/
def fullScale (P : Params) (c : Byte) : BitVec 3 := c.extractLsb' P.ctrl5.fsLo 3

/-- The four data-available flags (R27). -/
structure DaFlags where
  xda : Bool
  yda : Bool
  zda : Bool
  zyxda : Bool
  deriving DecidableEq, Repr

/-- `DA(c)` of R114. -/
def dataAvailable (P : Params) (c : Byte) : DaFlags :=
  if rate P c = 0 then ⟨false, false, false, false⟩
  else if enabled P .x c && enabled P .y c && enabled P .z c then ⟨false, false, false, true⟩
  else ⟨enabled P .x c, enabled P .y c, enabled P .z c, false⟩

/-- The data-available flags a STATUS value holds (R27). -/
def flagsOf (P : Params) (st : Byte) : DaFlags :=
  ⟨st.getLsbD P.status.xda, st.getLsbD P.status.yda, st.getLsbD P.status.zda, st.getLsbD P.status.zyxda⟩

/-- A STATUS value with its four data-available flags replaced, its other bits unchanged (R114). -/
def withFlags (P : Params) (st : Byte) (f : DaFlags) : Byte :=
  setBit (setBit (setBit (setBit st P.status.xda f.xda) P.status.yda f.yda) P.status.zda f.zda) P.status.zyxda f.zyxda

/-- The STATUS value the recomputation leaves beside the CTRL4 value `c` (R114). -/
def recomputed (P : Params) (c st : Byte) : Byte := withFlags P st (dataAvailable P c)

/-- A bit of STATUS that is no data-available flag (R27). -/
def otherStatusBit (P : Params) (i : Fin 8) : Prop :=
  i ≠ P.status.xda ∧ i ≠ P.status.yda ∧ i ≠ P.status.zda ∧ i ≠ P.status.zyxda

/-! ### The flash status register (R34) -/

/-- BUSY, bit 0. -/
def busy (st : Byte) : Bool := st.getLsbD 0

/-- WEL, the write-enable latch, bit 1. -/
def wel (st : Byte) : Bool := st.getLsbD 1

/-- BP, the block-protect bits, bits 4:2. -/
def bp (st : Byte) : BitVec 3 := st.extractLsb' 2 3

/-- TB, top/bottom protect, bit 5. -/
def tb (st : Byte) : Bool := st.getLsbD 5

/-- SEC, sector protect, bit 6. -/
def sec (st : Byte) : Bool := st.getLsbD 6

/-- SRP, status-register protect, bit 7. -/
def srp (st : Byte) : Bool := st.getLsbD 7

/-- A flash status value with WEL set, bits 7:2 and 0 unchanged (R141). -/
def withWel (st : Byte) : Byte := setBit st 1 true

end Sys2Proof.Machine
end

