-- ==== Sys2Proof/Machine/ResetValues.lean ====
section
/-! DEFINITION. Values at reset that are more than a literal (spec/10_state.md R27, R30; spec/70_reset_and_hazards.md
R180); `State.reset` and the RESET event both use them. -/

namespace Sys2Proof.Machine

/-- STATUS after reset, by P_STATUS_RESET_POLICY (R27). -/
def statusAtReset (P : Params) : Byte :=
  match P.resetPolicy with
  | .literal => Literal.statusReset
  | .recomputed => recomputed P Literal.ctrl4Reset Literal.statusReset

/-- The nearest valid engineering value; the identity on the valid range. -/
def clampAccel (v : Rat) : Rat := max Literal.accelMin (min Literal.accelMax v)

/-- The `n`-th draw within [ACCEL_MIN, ACCEL_MAX] (R30, R180, log 7): any value of the range, by a free rational. -/
def drawAccel (n : Nat) : Rat := clampAccel (Config.freeAccel n)

end Sys2Proof.Machine
end

