-- ==== Sys2Proof/Machine/State.lean ====
section
/-! DEFINITION. The state of the block (spec/10_state.md R20 to R41), as plain data, and the state after reset. -/

namespace Sys2Proof.Machine

/-- The fault reasons (R160), each with the byte it records. Both are safe: the model stops where the source gives the
hardware no meaning (D3). -/
inductive Fault
  /-- F_UNSELECTED_BYTE: raised by a byte to SENSOR while chip-select is deasserted (R93). Safe. -/
  | unselectedByte (b : Byte)
  /-- F_IDLE_DATA: raised by a data byte processed in phase Idle; no event reaches it (R97). Safe. -/
  | idleData (b : Byte)
  deriving DecidableEq, Repr

/-- The refusal reasons (R161), and the one by which an instruction without a meaning is rejected. -/
inductive Refusal
  /-- Raised by an arm of `exec` that has no meaning yet; no arm is one. Safe. -/
  | notModelled (mnemonic : String)
  /-- RF_FLASH_SERIAL: raised by CS, FINISH or XFER delivered to FLASH (R149). Safe. -/
  | flashSerial
  /-- RF_FLASH_ACCESS: raised by a FLASH register-bus access other than the two 32-bit ones (R53). Safe. -/
  | flashAccess
  deriving DecidableEq, Repr

/-- What an event answers the host (R9 `respond`, R10): a byte for a transfer, a word for a read-data access, a rational
for get-sensitivity. -/
inductive Response
  | byte (b : Byte)
  | word (w : Word)
  | rational (q : Rat)
  deriving DecidableEq, Repr

/-- The engineering value of each axis, in g (R30 `axisVal`). -/
structure AxisVals where
  x : Rat
  y : Rat
  z : Rat
  deriving DecidableEq, Repr

/-- The SENSOR instance (R20 to R33, R36). -/
structure Sensor where
  /-- The chip-select level as last delivered (R20). -/
  sel : Bool
  /-- The framer's phase (R21). -/
  phase : Phase
  /-- The decoded register address of the open transaction (R22). -/
  target : Addr7
  /-- reg[WHOAMI] (R24). -/
  whoami : Byte
  /-- reg[CTRL4] (R25). -/
  ctrl4 : Byte
  /-- reg[CTRL5] (R26). -/
  ctrl5 : Byte
  /-- reg[STATUS] (R27). -/
  status : Byte
  /-- `axisVal` (R30). -/
  axis : AxisVals
  /-- The sticky fault mark (R36, R162). -/
  faulted : Option Fault
  /-- The model's own: the response of the latest event this instance took (R10, log 8). -/
  response : Option Response
  /-- The model's own: how many values this instance has drawn (R12, log 5). -/
  draws : Nat
  deriving DecidableEq, Repr

/-- The FLASH instance (R34 to R36). -/
structure Flash where
  /-- The flash status register (R34). -/
  fstatus : Byte
  /-- The last word written to the command register (R35). -/
  lastCmd : Word
  /-- The sticky fault mark (R36); no event of FLASH faults (R160). -/
  faulted : Option Fault
  /-- The model's own: the response of the latest event this instance took (R10, log 8). -/
  response : Option Response
  /-- The model's own: how many values this instance has drawn (R12, log 5). -/
  draws : Nat
  deriving DecidableEq, Repr

/-- The machine: both instances, which share nothing (R2, R66), the run's refusal mark (R36) and the model's own list of
the host's events still to come, the next one first (R37, log 2). -/
structure State where
  sensor : Sensor
  flash : Flash
  refused : Bool
  pending : List HostEvent
  deriving DecidableEq, Repr

/-- The state at construction and after reset (R40, R181). `target` and the axis values are free (R22, R30, log 6, log
7): draws 0 to 3 of SENSOR. -/
def State.reset : State where
  sensor := {
    sel := false
    phase := .idle
    target := Config.freeAddr 0
    whoami := Literal.whoami
    ctrl4 := Literal.ctrl4Reset
    ctrl5 := Literal.ctrl5Reset
    status := statusAtReset Config.params
    axis := ⟨drawAccel 1, drawAccel 2, drawAccel 3⟩
    faulted := none
    response := none
    draws := 4 }
  flash := {
    fstatus := Literal.fstatusReset
    lastCmd := Literal.lastCmdReset
    faulted := none
    response := none
    draws := 0 }
  refused := false
  pending := []

end Sys2Proof.Machine
end

