-- ==== Sys2Proof/Machine/Operands.lean ====
section
/-! DEFINITION. How instructions reach their operands: the sensor register file through its access functions
(spec/41_sensor_commands.md R112, R113), the axis values (spec/10_state.md R30), the raw codes and the sensitivity
(R115, R116), the flash read-data response's inputs. -/

namespace Sys2Proof.Machine

/-- `axisVal[a]`. -/
def AxisVals.get (v : AxisVals) : Axis → Rat
  | .x => v.x
  | .y => v.y
  | .z => v.z

/-- `axisVal[a] <- q`. -/
def AxisVals.set (v : AxisVals) (a : Axis) (q : Rat) : AxisVals :=
  match a with
  | .x => { v with x := q }
  | .y => { v with y := q }
  | .z => { v with z := q }

/-- `P_SENSOR_MAP⁻¹(a)`: the register mapped at an address, if any (R23, R29). -/
def regAt (P : Params) (a : Addr7) : Option SReg := SReg.all.find? (fun r => P.addr r == a)

/-- `Sens()` of R115, in milli-g per LSB. -/
def sensitivity (P : Params) (s : Sensor) : Rat := P.sens (fullScale P s.ctrl5)

/-- `Raw(a)` of R116, computed when it is read. -/
def rawCode (P : Params) (a : Axis) (s : Sensor) : Raw := P.encode (s.axis.get a) (sensitivity P s)

/-- What the register `r` reads as (R112): WHOAMI is the constant 0x3F, the OUT registers are computed, the others are
stored. -/
def readReg (P : Params) (r : SReg) (s : Sensor) : Byte :=
  match r with
  | .whoami => Literal.whoami
  | .ctrl4 => s.ctrl4
  | .ctrl5 => s.ctrl5
  | .status => s.status
  | .out a h => halfOf h (rawCode P a s)

/-- `SRegRead(a)` of R112: an unmapped address reads as 0x00. -/
def sregRead (P : Params) (a : Addr7) (s : Sensor) : Byte :=
  match regAt P a with
  | some r => readReg P r s
  | none => Literal.unmappedRead

/-- What a bus write of `v` to the register `r` does (R113): CTRL4 and CTRL5 store all 8 bits, every other is dropped. -/
def writeReg (r : SReg) (v : Byte) (s : Sensor) : Sensor :=
  match r with
  | .whoami => s
  | .ctrl4 => { s with ctrl4 := v }
  | .ctrl5 => { s with ctrl5 := v }
  | .status => s
  | .out _ _ => s

/-- `SRegWrite(a, v)` of R113: a write to an unmapped address is dropped. -/
def sregWrite (P : Params) (a : Addr7) (v : Byte) (s : Sensor) : Sensor :=
  match regAt P a with
  | some r => writeReg r v s
  | none => s

/-- `Recompute()` of R114. -/
def recompute (P : Params) (s : Sensor) : Sensor := { s with status := recomputed P s.ctrl4 s.status }

end Sys2Proof.Machine
end

