-- ==== Sys2Proof/Machine/Ops.lean ====
section
/-! DEFINITION. The shared operations: acting on one instance, answering the host, the checks in front of a byte, taking
a fault and taking a refusal (spec/60_exceptions.md), and fetching the next host event. -/

namespace Sys2Proof.Machine

/-! ### Acting on one instance (R66) -/

/-- The state with `f` applied to SENSOR; FLASH is not touched. -/
def State.onSensor (f : Sensor → Sensor) (s : State) : State := { s with sensor := f s.sensor }

/-- The state with `f` applied to FLASH; SENSOR is not touched. -/
def State.onFlash (f : Flash → Flash) (s : State) : State := { s with flash := f s.flash }

/-- The fault mark of an instance (R36). -/
def State.faultOf (s : State) : Instance → Option Fault
  | .sensor => s.sensor.faulted
  | .flash => s.flash.faulted

/-- The response of the latest event an instance took (R10). -/
def State.responseOf (s : State) : Instance → Option Response
  | .sensor => s.sensor.response
  | .flash => s.flash.response

/-! ### Answering the host (R9 `respond`, `draw_N`) -/

/-- SENSOR answers `r`. -/
def Sensor.answer (r : Response) (s : Sensor) : Sensor := { s with response := some r }

/-- The event returns nothing (R10). -/
def Sensor.silent (s : Sensor) : Sensor := { s with response := none }

/-- SENSOR answers a drawn byte (R94, R95, R111, log 5). -/
def Sensor.answerDrawn (s : Sensor) : Sensor :=
  { s with response := some (.byte (Config.freeByte s.draws)), draws := s.draws + 1 }

/-- FLASH answers `r`. -/
def Flash.answer (r : Response) (f : Flash) : Flash := { f with response := some r }

/-- The event returns nothing (R10). -/
def Flash.silent (f : Flash) : Flash := { f with response := none }

/-- FLASH answers a drawn word (R147, log 5). -/
def Flash.answerDrawn (f : Flash) : Flash :=
  { f with response := some (.word (Config.freeWord f.draws)), draws := f.draws + 1 }

/-! ### Events and their checks -/

/-- An event that SENSOR takes and FLASH, having no serial transport in the model, refuses (R149). -/
def serialEvent (i : Instance) (f : Sensor → Sensor) (s : State) : Host.Outcome State Fault Refusal :=
  match i with
  | .sensor => .next (s.onSensor f)
  | .flash => .refused .flashSerial

/-- A byte `b` delivered to SENSOR: the selection check of R93 stands before its effect `f`. -/
def deliverByte (b : Byte) (f : Sensor → Sensor) (s : State) : Host.Outcome State Fault Refusal :=
  if s.sensor.sel then .next (s.onSensor f) else .fault (.unselectedByte b)

/-- A data byte `b` delivered to SENSOR: after the selection check it must not find the framer Idle (R97). -/
def deliverDataByte (b : Byte) (f : Sensor → Sensor) (s : State) : Host.Outcome State Fault Refusal :=
  if s.sensor.sel = true ∧ s.sensor.phase = .idle then .fault (.idleData b) else deliverByte b f s

/-- An address byte opens a transaction for register `a` in direction `ph` (R94, R95). -/
def openTransaction (ph : Phase) (a : Addr7) (s : Sensor) : Sensor :=
  { s with target := a, phase := ph }.answerDrawn

/-- A deselection: the transaction, if any, is discarded, and `target` is left unspecified (R91, log 6). -/
def deselect (s : Sensor) : Sensor :=
  { s with sel := false, phase := .idle, target := Config.freeAddr s.draws, draws := s.draws + 1 }.silent

/-- A command word is recorded, whatever its opcode, before the opcode's effect (R140, R165); it has no response. -/
def recordCommand (w : Word) (f : Flash) : Flash := { f with lastCmd := w }.silent

/-! ### Taking a fault, taking a refusal -/

/-- The block's whole trap entry (R166): the instance keeps its state and is marked with the reason. Nothing is saved, no
handler runs, and there is no return (R167). -/
def takeFault (i : Instance) (r : Fault) (s : State) : State :=
  match i with
  | .sensor => { s with sensor := { s.sensor with faulted := some r } }
  | .flash => { s with flash := { s.flash with faulted := some r } }

/-- A refusal changes no state of an instance and marks the run (R36, R161). -/
def takeRefusal (s : State) : State := { s with refused := true }

/-- The reason of R161 for an event that decoding rejects. -/
def refusalOf : Reject → Refusal
  | .flashSerial => .flashSerial
  | .flashAccess => .flashAccess

/-! ### Fetching -/

/-- What stands next for the machine: no event, an event of a faulted instance, an event without a meaning, or an
instruction with the state it runs in. The order of these checks is R165's. -/
inductive Fetched
  | idle
  | dead (r : Fault)
  | rejected (r : Refusal)
  | run (i : Instr) (s : State)
  deriving DecidableEq, Repr

/-- Take the next host event, once and in order (R37, R60), and decode it by the framer's phase (R72). A faulted
instance takes no step (R162, R165). -/
def fetch (P : Params) (s : State) : Fetched :=
  match s.pending with
  | [] => .idle
  | e :: rest =>
    match s.faultOf e.target with
    | some r => .dead r
    | none =>
      match decodeEvent P s.sensor.phase e with
      | .reject r => .rejected (refusalOf r)
      | .instr i => .run i { s with pending := rest }

/-- The event with which the host delivers a table word: 8 bits are a byte to SENSOR, any other count a command word to
FLASH (log 12). -/
def tableEvent (nbits w : Nat) : HostEvent :=
  if nbits = 8 then .sensor (.xfer (BitVec.ofNat 8 w)) else .flash (.wcmd (BitVec.ofNat 32 w))

/-- The state in which that event comes next: a byte needs the chip-select asserted and the framer Idle (log 12). -/
def placeTableWord (nbits w : Nat) (s : State) : State :=
  let placed := { s with pending := tableEvent nbits w :: s.pending }
  if nbits = 8 then placed.onSensor (fun x => { x with sel := true, phase := .idle }) else placed

end Sys2Proof.Machine
end

