-- ==== Sys2Proof/Machine/FlashCommands.lean ====
section
/-! DEFINITION. The FLASH command interpreter (spec/42_flash_commands.md): the five command words, WCMD which does
for any word what its command does, and RDATA. -/

namespace Sys2Proof.Machine

/-- A command's step: the word is recorded, then the opcode's effect `f` takes place (R140). -/
def command (w : Word) (f : Flash → Flash) (s : State) : Host.Outcome State Fault Refusal :=
  .next (s.onFlash (fun x => f (recordCommand w x)))

/-- WriteEnable sets WEL, the other bits unchanged (R141). -/
def writeEnable (f : Flash) : Flash := { f with fstatus := withWel f.fstatus }

/-- ExitContinuousMode resets the whole status register (R142). -/
def exitContinuousMode (f : Flash) : Flash := { f with fstatus := Literal.fstatusReset }

/-- `Resp()` of R147, answered: the sentinel, the live status, or a drawn word. -/
def readData (P : Params) (f : Flash) : Flash :=
  if opOf f.lastCmd = Literal.opRdid then f.answer (.word Literal.idSentinel)
  else if opOf f.lastCmd = P.opRdsr then f.answer (.word (f.fstatus.setWidth 32))
  else f.answerDrawn

/-- FL_WREN (R141). -/
def execFlWren (arg : BitVec 24) (s : State) : Host.Outcome State Fault Refusal :=
  command (commandWord arg Literal.opWren) writeEnable s

/-- FL_EXITCM (R142). -/
def execFlExitcm (arg : BitVec 24) (s : State) : Host.Outcome State Fault Refusal :=
  command (commandWord arg Literal.opExitcm) exitContinuousMode s

/-- FL_RDID (R143): nothing beyond the record; RDATA answers it. -/
def execFlRdid (arg : BitVec 24) (s : State) : Host.Outcome State Fault Refusal :=
  command (commandWord arg Literal.opRdid) id s

/-- FL_RDSR (R144): nothing beyond the record; RDATA answers it. -/
def execFlRdsr (arg : BitVec 24) (s : State) : Host.Outcome State Fault Refusal :=
  command (commandWord arg Config.params.opRdsr) id s

/-- FL_UNIMPL (R145): nothing beyond the record. -/
def execFlUnimpl (arg : BitVec 24) (op : Byte) (s : State) : Host.Outcome State Fault Refusal :=
  command (commandWord arg op) id s

/-- What the opcode `op` does beyond the record, for WCMD (R140's case split; R141 to R145). -/
def opcodeEffect (P : Params) (op : Byte) (f : Flash) : Flash :=
  if op = Literal.opWren then writeEnable f
  else if op = Literal.opExitcm then exitContinuousMode f
  else if op = Literal.opRdid then f
  else if op = P.opRdsr then f
  else f

/-- WCMD (R140): the word is recorded and the opcode of its bits 7:0 takes effect. -/
def execWcmd (w : Word) (s : State) : Host.Outcome State Fault Refusal :=
  command w (opcodeEffect Config.params (opOf w)) s

/-- RDATA (R146, R147). -/
def execRdata (s : State) : Host.Outcome State Fault Refusal := .next (s.onFlash (readData Config.params))

end Sys2Proof.Machine
end

