-- ==== Sys2Proof/Machine/Framer.lean ====
section
/-! DEFINITION. Transaction framer and address bytes (spec/40_framer.md): CS_ASSERT, CS_DEASSERT, FINISH, SPI_ADDR_RD,
SPI_ADDR_WR. -/

namespace Sys2Proof.Machine

/-- Chip-select assertion on SENSOR (R90): no state is pre-loaded, and an assertion while asserted changes nothing. -/
def assertSelect (s : Sensor) : Sensor := (if s.sel then s else { s with sel := true }).silent

/-- CS_ASSERT (R90); FLASH refuses it (R149). -/
def execCsAssert (i : Instance) (s : State) : Host.Outcome State Fault Refusal := serialEvent i assertSelect s

/-- CS_DEASSERT (R91); FLASH refuses it (R149). -/
def execCsDeassert (i : Instance) (s : State) : Host.Outcome State Fault Refusal := serialEvent i deselect s

/-- FINISH (R92), exactly the effect of CS_DEASSERT; FLASH refuses it (R149). -/
def execFinish (i : Instance) (s : State) : Host.Outcome State Fault Refusal := serialEvent i deselect s

/-- SPI_ADDR_RD (R94). -/
def execSpiAddrRd (a : Addr7) (s : State) : Host.Outcome State Fault Refusal :=
  deliverByte (addressByte true a) (openTransaction .reading a) s

/-- SPI_ADDR_WR (R95). -/
def execSpiAddrWr (a : Addr7) (s : State) : Host.Outcome State Fault Refusal :=
  deliverByte (addressByte false a) (openTransaction .writing a) s

end Sys2Proof.Machine
end

