-- ==== Sys2Proof/Machine/Reset.lean ====
section
/-! DEFINITION. The reset event of each instance (spec/70_reset_and_hazards.md R180): RESET. -/

namespace Sys2Proof.Machine

/-- RESET of SENSOR (R180): an open transaction is discarded, the registers take their reset values, `target` and the
axis values are drawn (log 6, log 7). -/
def resetSensor (P : Params) (s : Sensor) : Sensor :=
  { s with
    sel := false
    phase := .idle
    target := Config.freeAddr s.draws
    whoami := Literal.whoami
    ctrl4 := Literal.ctrl4Reset
    ctrl5 := Literal.ctrl5Reset
    status := statusAtReset P
    axis := ⟨drawAccel (s.draws + 1), drawAccel (s.draws + 2), drawAccel (s.draws + 3)⟩
    response := none
    draws := s.draws + 4 }

/-- RESET of FLASH (R180). -/
def resetFlash (f : Flash) : Flash :=
  { f with fstatus := Literal.fstatusReset, lastCmd := Literal.lastCmdReset, response := none }

/-- RESET (R180); it writes no parameter (R182) and reaches only the instance it is delivered to (R66). -/
def execReset (i : Instance) (s : State) : Host.Outcome State Fault Refusal :=
  match i with
  | .sensor => .next (s.onSensor (resetSensor Config.params))
  | .flash => .next (s.onFlash resetFlash)

end Sys2Proof.Machine
end

