-- ==== Sys2Proof/Machine/SensorData.lean ====
section
/-! DEFINITION. The data bytes of a SENSOR transaction (spec/41_sensor_commands.md R110, R111, R120): SPI_DATA_RD,
SPI_DATA_WR. Neither moves `phase` or `target`. -/

namespace Sys2Proof.Machine

/-- A data byte in phase Reading answers the target register's value, as it is now (R110). -/
def dataRead (P : Params) (s : Sensor) : Sensor := s.answer (.byte (sregRead P s.target s))

/-- A data byte in phase Writing stores, then recomputes the flags whatever the target (R111). -/
def dataWrite (P : Params) (d : Byte) (s : Sensor) : Sensor :=
  (recompute P (sregWrite P s.target d s)).answerDrawn

/-- SPI_DATA_RD (R110); the incoming byte is ignored. -/
def execSpiDataRd (d : Byte) (s : State) : Host.Outcome State Fault Refusal :=
  deliverDataByte d (dataRead Config.params) s

/-- SPI_DATA_WR (R111). -/
def execSpiDataWr (d : Byte) (s : State) : Host.Outcome State Fault Refusal :=
  deliverDataByte d (dataWrite Config.params d) s

end Sys2Proof.Machine
end

