-- ==== Sys2Proof/Machine/Stimulus.lean ====
section
/-! DEFINITION. SENSOR's stimulus interface (spec/41_sensor_commands.md R118, R119, R121): SETACC, SETEN, GETSENS. None
depends on or changes `sel`, `phase` or `target` (R124). -/

namespace Sys2Proof.Machine

/-- Set an axis's engineering value; out of the closed range it is rejected, the value unchanged (R118). -/
def setAccel (a : Axis) (v : Rat) (s : Sensor) : Sensor :=
  (if Literal.accelMin ≤ v ∧ v ≤ Literal.accelMax then { s with axis := s.axis.set a v } else s).silent

/-- Set an axis's enable bit of CTRL4, the other bits unchanged, then recompute (R119). -/
def setEnable (P : Params) (a : Axis) (e : Bool) (s : Sensor) : Sensor :=
  (recompute P { s with ctrl4 := setBit s.ctrl4 (P.ctrl4.enableBit a) e }).silent

/-- Answer the current sensitivity (R121). -/
def getSensitivity (P : Params) (s : Sensor) : Sensor := s.answer (.rational (sensitivity P s))

/-- SETACC (R118). -/
def execSetacc (a : Axis) (v : Rat) (s : State) : Host.Outcome State Fault Refusal := .next (s.onSensor (setAccel a v))

/-- SETEN (R119). -/
def execSeten (a : Axis) (e : Bool) (s : State) : Host.Outcome State Fault Refusal :=
  .next (s.onSensor (setEnable Config.params a e))

/-- GETSENS (R121). -/
def execGetsens (s : State) : Host.Outcome State Fault Refusal := .next (s.onSensor (getSensitivity Config.params))

end Sys2Proof.Machine
end

