-- ==== Sys2Proof/Machine/Dispatch.lean ====
section
/-! DEFINITION. One arm per instruction (spec/opcode_table.json), each one call of its meaning. -/

namespace Sys2Proof.Machine

def exec (i : Instr) (s : State) : Host.Outcome State Fault Refusal :=
  match i with
  | .spiAddrRd a => Sys2Proof.Machine.execSpiAddrRd a s
  | .spiAddrWr a => Sys2Proof.Machine.execSpiAddrWr a s
  | .spiDataRd d => Sys2Proof.Machine.execSpiDataRd d s
  | .spiDataWr d => Sys2Proof.Machine.execSpiDataWr d s
  | .flWren arg => Sys2Proof.Machine.execFlWren arg s
  | .flExitcm arg => Sys2Proof.Machine.execFlExitcm arg s
  | .flRdid arg => Sys2Proof.Machine.execFlRdid arg s
  | .flRdsr arg => Sys2Proof.Machine.execFlRdsr arg s
  | .flUnimpl arg op => Sys2Proof.Machine.execFlUnimpl arg op s
  | .csAssert k => Sys2Proof.Machine.execCsAssert k s
  | .csDeassert k => Sys2Proof.Machine.execCsDeassert k s
  | .finish k => Sys2Proof.Machine.execFinish k s
  | .wcmd w => Sys2Proof.Machine.execWcmd w s
  | .rdata => Sys2Proof.Machine.execRdata s
  | .setacc a v => Sys2Proof.Machine.execSetacc a v s
  | .seten a e => Sys2Proof.Machine.execSeten a e s
  | .getsens => Sys2Proof.Machine.execGetsens s
  | .reset k => Sys2Proof.Machine.execReset k s

end Sys2Proof.Machine
end

