-- ==== Sys2Proof/Machine/Step.lean ====
section
/-! DEFINITION. One step of the machine (spec/00_scope.md R5, R10, R11): the next host event, taken by the instance it
is addressed to. -/

namespace Sys2Proof.Machine

/-- One step: no event, no change (R5, R182, log 2); an event of a faulted instance, that fault again (R162, log 9); an
event without a meaning, its refusal (R161); otherwise the event's instruction (R165). -/
def step (s : State) : Host.Outcome State Fault Refusal :=
  match fetch Config.params s with
  | .idle => .next s
  | .dead r => .fault r
  | .rejected r => .refused r
  | .run i t => exec i t

/-- `s` with a table word as the very next thing the host delivers (log 12). -/
def State.withFetchWord (s : State) (nbits w : Nat) : State := placeTableWord nbits w s

end Sys2Proof.Machine
end

