-- ==== Sys2Proof/Machine/Run.lean ====
section
/-! DEFINITION. Runs (spec/70_reset_and_hazards.md R191): what an instance holds after a step of each outcome
(spec/60_exceptions.md R161, R162, R166), the sequence of responses, and the spec's pseudo-instructions
(spec/30_encoding.md R82). -/

namespace Sys2Proof.Machine

/-- The state after a step, whatever its outcome (R10): the next state; or the state as it was, the event consumed, with
the fault mark of the instance (R166) or the run's refusal mark (R36) set. -/
def afterStep (s : State) : State :=
  match s.pending with
  | [] => s
  | e :: rest =>
    match step s with
    | .next t => t
    | .fault r => takeFault e.target r { s with pending := rest }
    | .refused _ => takeRefusal { s with pending := rest }

/-- The response of one step (R10): that of the instance the event went to; a step that faults or is refused has none. -/
def stepResponse (s : State) : Option Response :=
  match s.pending with
  | [] => none
  | e :: _ =>
    match step s with
    | .next t => t.responseOf e.target
    | .fault _ => none
    | .refused _ => none

/-- What a run shows (R191): the responses, one per event, and the final state. -/
structure Observation where
  responses : List (Option Response)
  final : State
  deriving DecidableEq, Repr

/-- The run of the next `n` events. -/
def observe : Nat → State → Observation
  | 0, s => ⟨[], s⟩
  | n + 1, s =>
    let rest := observe n (afterStep s)
    ⟨stepResponse s :: rest.responses, rest.final⟩

/-- The run of the events `es`, delivered in order to the machine in state `s`. -/
def runEvents (es : List HostEvent) (s : State) : Observation := observe es.length { s with pending := es }

/-! ### Pseudo-instructions (R82) -/

/-- `SPI.READ a, n`; the filler byte 0x00 is arbitrary. -/
def spiRead (a : Addr7) (n : Nat) : List HostEvent :=
  [.sensor (.cs true), .sensor (.xfer (addressByte true a))] ++ List.replicate n (.sensor (.xfer 0x00#8)) ++
    [.sensor (.cs false)]

/-- `SPI.WRITE a, d1, ..., dn`. -/
def spiWrite (a : Addr7) (ds : List Byte) : List HostEvent :=
  [.sensor (.cs true), .sensor (.xfer (addressByte false a))] ++ ds.map (fun d => .sensor (.xfer d)) ++
    [.sensor (.cs false)]

/-- `FL.CMD op`. -/
def flCmd (op : Byte) : List HostEvent := [.flash (.wcmd (op.setWidth 32))]

/-- `FL.QUERY op`. -/
def flQuery (op : Byte) : List HostEvent := [.flash (.wcmd (op.setWidth 32)), .flash .rdata]

end Sys2Proof.Machine
end

