-- ==== Sys2Proof/Safety.lean ====
section
/-! DEFINITION. What a valid run is (spec/70_reset_and_hazards.md R191) and the invariants the spec gives the state
(spec/10_state.md R27, R30, R33, R34; spec/40_framer.md R100; spec/42_flash_commands.md R148). -/

namespace Sys2Proof.Machine

/-- The data-available flags are those of CTRL4 (R33). -/
def Sensor.flagsFresh (P : Params) (s : Sensor) : Prop := flagsOf P s.status = dataAvailable P s.ctrl4

/-- SENSOR's invariant: deselected means Idle (R100); WHOAMI holds its constant (R24); the STATUS bits that are no flag
are those of 0x08 (R27); every axis value is in the valid range (R30); and the flags are fresh, but for the reset
registers under P_STATUS_RESET_POLICY = LITERAL (R33). -/
structure Sensor.Inv (P : Params) (s : Sensor) : Prop where
  idle_of_deselected : s.sel = false → s.phase = .idle
  whoami_constant : s.whoami = Literal.whoami
  other_status_bits : ∀ i : Fin 8, otherStatusBit P i → s.status.getLsbD i = Literal.statusReset.getLsbD i
  axis_in_range : ∀ a : Axis, Literal.accelMin ≤ s.axis.get a ∧ s.axis.get a ≤ Literal.accelMax
  flags_fresh : s.flagsFresh P ∨
    (P.resetPolicy = .literal ∧ s.ctrl4 = Literal.ctrl4Reset ∧ s.status = Literal.statusReset)

/-- FLASH's invariant: the status register holds 0x00 or 0x02 (R34, R148). -/
def Flash.Inv (f : Flash) : Prop := f.fstatus = 0x00#8 ∨ f.fstatus = 0x02#8

/-- The machine's invariant. -/
structure State.Inv (s : State) : Prop where
  sensor : s.sensor.Inv Config.params
  flash : s.flash.Inv

/-- No step so far faulted and none was refused (R191); the marks are sticky (R36, R162). -/
def State.Valid (s : State) : Prop := s.sensor.faulted = none ∧ s.flash.faulted = none ∧ s.refused = false

end Sys2Proof.Machine
end

