-- ==== Sys2Proof/Certificates/Slice0/Obligations.lean ====
section
/-! DEFINITION. The statements about the block, for the provers. Each docstring names the rule of spec/ it rests on.
`Config.params` has no body, so every statement holds for every value of the parameters; a response or a count of draws
under an existential quantifier is a free value. `Decisions` names the choices of spec/92_eei_decisions.md that a statement
rests on: the spec marks them as its own (log 17). -/

open Sys2Proof Sys2Proof.Machine

/-! ### Reset (R27, R30, R40, R180, R181) -/

/-- R40: what reset leaves. STATUS by policy (R27); each axis value anywhere in the range (R30).
Decisions: D16, D20, D21, D31, D35. -/
def Obligations.ResetStateHoldsTheSpecifiedValues : Prop :=
  State.reset.sensor.sel = false ∧ State.reset.sensor.phase = .idle ∧
  State.reset.sensor.whoami = 0x3F#8 ∧ State.reset.sensor.ctrl4 = 0x43#8 ∧ State.reset.sensor.ctrl5 = 0x00#8 ∧
  (Config.params.resetPolicy = .literal → State.reset.sensor.status = 0x08#8) ∧
  (Config.params.resetPolicy = .recomputed →
    State.reset.sensor.status = withFlags Config.params 0x08#8 (dataAvailable Config.params 0x43#8)) ∧
  (∀ a : Axis, -19 ≤ State.reset.sensor.axis.get a ∧ State.reset.sensor.axis.get a ≤ 19) ∧
  State.reset.sensor.faulted = none ∧
  State.reset.flash.fstatus = 0x00#8 ∧ State.reset.flash.lastCmd = 0x00000000#32 ∧ State.reset.flash.faulted = none ∧
  State.reset.refused = false

/-- The invariants of R24, R27, R30, R33, R34 and R100 hold at reset. Decisions: D13, D16, D20, D21. -/
def Obligations.ResetStateMeetsTheInvariant : Prop := State.reset.Inv

/-- Every step keeps them: deselected means Idle (R100), WHOAMI constant (R24), the STATUS bits outside the flags those
of 0x08 (R27), the axis values in range (R30), the flags fresh but for the LITERAL reset registers (R33), the flash
status 0x00 or 0x02 (R34, R148). Decisions: D13, D16, D20, D21. -/
def Obligations.EveryStepKeepsTheInvariant : Prop :=
  ∀ s t : State, s.Inv → step s = .next t → t.Inv

/-- R180, SENSOR: RESET gives every register its reset value from any state, ends an open transaction, and draws `target`
and three axis values in the range. The fault mark is kept: a faulted instance never gets here.
Decisions: D16, D20, D21, D35, D36. -/
def Obligations.ResetOfSensorRestoresItsRegisters : Prop :=
  ∀ s : State, ∃ (a : Addr7) (v : AxisVals) (n : Nat) (st : Byte),
    (∀ k : Axis, -19 ≤ v.get k ∧ v.get k ≤ 19) ∧
    (Config.params.resetPolicy = .literal → st = 0x08#8) ∧
    (Config.params.resetPolicy = .recomputed →
      st = withFlags Config.params 0x08#8 (dataAvailable Config.params 0x43#8)) ∧
    exec (.reset .sensor) s = .next { s with sensor := {
      sel := false, phase := .idle, target := a, whoami := 0x3F#8, ctrl4 := 0x43#8, ctrl5 := 0x00#8, status := st,
      axis := v, faulted := s.sensor.faulted, response := none, draws := n } }

/-- R180, FLASH: RESET clears `fstatus` and `lastCmd`, and touches nothing else. Decisions: D31. -/
def Obligations.ResetOfFlashClearsStatusAndCommand : Prop :=
  ∀ s : State, exec (.reset .flash) s =
    .next { s with flash := { s.flash with fstatus := 0x00#8, lastCmd := 0x00000000#32, response := none } }

/-- R181: from any state of an instance that has not faulted, RESET gives the power-on state of that instance, but for
the values that are drawn anew (`target`, the axis values) and the model's counters of draws.
Decisions: D21, D31, D35. -/
def Obligations.ResetGivesThePowerOnState : Prop :=
  ∀ s : State,
    (s.sensor.faulted = none → ∃ t, exec (.reset .sensor) s = .next t ∧
      { t.sensor with
        target := State.reset.sensor.target, axis := State.reset.sensor.axis, draws := State.reset.sensor.draws } =
        State.reset.sensor) ∧
    (s.flash.faulted = none → ∃ t, exec (.reset .flash) s = .next t ∧
      { t.flash with draws := State.reset.flash.draws } = State.reset.flash)

/-! ### Encoding (R71 to R77, R80) -/

/-- Decoding an encoded well-formed instruction gives it back, in the phase in which it is that instruction, whatever the
parameters (R71 to R74, R80). Decisions: D8, D25, D26, D44. -/
def Obligations.DecodeInvertsEncode : Prop :=
  ∀ (P : Params) (i : Instr), i.wf P = true → decode P i.phase (encode P i) = .instr i

/-- R77: decoding is total and drops no bit. Every byte, in every phase, and every command word decode to one well-formed
instruction of that phase, whose encoding is the byte or word. Decisions: D8, D25, D26. -/
def Obligations.DecodingDropsNoBit : Prop :=
  ∀ P : Params,
    (∀ (ph : Phase) (b : Byte),
      (decodeByte ph b).wf P = true ∧ (decodeByte ph b).phase = ph ∧ encode P (decodeByte ph b) = .byte b) ∧
    (∀ w : Word, (decodeWord P w).wf P = true ∧ encode P (decodeWord P w) = .word w)

/-- R74, R76: the opcode map is a match on bits 7:0 only, whatever the other bits and whatever P_OP_RDSR.
Decisions: D25, D26, D44. -/
def Obligations.OpcodeMapReadsTheLowByteAlone : Prop :=
  ∀ (P : Params) (w : Word),
    (w &&& 0x000000FF#32 = 0x00000006#32 → decodeWord P w = .flWren (w.extractLsb' 8 24)) ∧
    (w &&& 0x000000FF#32 = 0x000000FF#32 → decodeWord P w = .flExitcm (w.extractLsb' 8 24)) ∧
    (w &&& 0x000000FF#32 = 0x0000009F#32 → decodeWord P w = .flRdid (w.extractLsb' 8 24)) ∧
    (w &&& 0x000000FF#32 = P.opRdsr.setWidth 32 → decodeWord P w = .flRdsr (w.extractLsb' 8 24)) ∧
    (w &&& 0x000000FF#32 ≠ 0x00000006#32 → w &&& 0x000000FF#32 ≠ 0x000000FF#32 →
      w &&& 0x000000FF#32 ≠ 0x0000009F#32 → w &&& 0x000000FF#32 ≠ P.opRdsr.setWidth 32 →
      decodeWord P w = .flUnimpl (w.extractLsb' 8 24) (w.extractLsb' 0 8))

/-- Words and bytes of spec/95_test_vectors.md decode to their rows; the last two under the illustrative P_OP_RDSR.
Decisions: D8, D25, D26. -/
def Obligations.WordsOfTheSpecDecodeToTheirRows : Prop :=
  decodeByte .idle 0x00#8 = .spiAddrWr 0x00#7 ∧ decodeByte .idle 0x7F#8 = .spiAddrWr 0x7F#7 ∧
  decodeByte .idle 0x80#8 = .spiAddrRd 0x00#7 ∧ decodeByte .idle 0xFF#8 = .spiAddrRd 0x7F#7 ∧
  decodeByte .idle 0x8F#8 = .spiAddrRd 0x0F#7 ∧
  decodeByte .reading 0x8F#8 = .spiDataRd 0x8F#8 ∧ decodeByte .writing 0x8F#8 = .spiDataWr 0x8F#8 ∧
  (∀ P : Params, decodeWord P 0x12345606#32 = .flWren 0x123456#24 ∧ decodeWord P 0x000000FF#32 = .flExitcm 0x000000#24 ∧
    decodeWord P 0xDEADBE9F#32 = .flRdid 0xDEADBE#24) ∧
  decodeWord (Params.illustrative .literal) 0x00000105#32 = .flRdsr 0x000001#24 ∧
  decodeWord (Params.illustrative .literal) 0x00000600#32 = .flUnimpl 0x000006#24 0x00#8

/-! ### A step (R5, R37, R60, R93, R165) -/

/-- A step takes the next event, addressed to an instance that has not faulted: where it decodes, by the framer's phase, to
an instruction, the step is that instruction on the state with the event consumed; where it has no meaning, the step is
its refusal and nothing runs (R165). Decisions: D2, D24, D32, D42. -/
def Obligations.StepRunsTheDecodedEvent : Prop :=
  ∀ (s : State) (e : HostEvent) (rest : List HostEvent), s.pending = e :: rest → s.faultOf e.target = none →
    (∀ i, decodeEvent Config.params s.sensor.phase e = .instr i → step s = exec i { s with pending := rest }) ∧
    (∀ r, decodeEvent Config.params s.sensor.phase e = .reject r → step s = .refused (refusalOf r))

/-- R93, R140: a byte delivered to SENSOR runs the SPI row it decodes to in the phase it finds, and a word written to
FLASH's command register runs the FL row it decodes to. Decisions: D3, D8, D26. -/
def Obligations.BytesAndWordsRunTheirRows : Prop :=
  ∀ (s : State) (rest : List HostEvent),
    (∀ b : Byte, s.pending = .sensor (.xfer b) :: rest → s.sensor.faulted = none →
      step s = exec (decodeByte s.sensor.phase b) { s with pending := rest }) ∧
    (∀ w : Word, s.pending = .flash (.wcmd w) :: rest → s.flash.faulted = none →
      step s = exec (decodeWord Config.params w) { s with pending := rest })

/-- R5, R182: with no event there is no step; that the model then answers the same state is its own choice (log 2). -/
def Obligations.NothingHappensWithoutAnEvent : Prop :=
  ∀ s : State, s.pending = [] → step s = .next s

/-- R37, R60: each event is consumed exactly once, in order, and no instruction adds one or touches the run's mark.
Decisions: D2, D37. -/
def Obligations.EventsAreConsumedInOrder : Prop :=
  ∀ (s t : State), step s = .next t → t.pending = s.pending.tail ∧ t.refused = s.refused

/-- R66: an event to one instance never reads or writes the other's state. It leaves the other as it is, and its outcome
for its own instance is the same beside any other state of the other. (No event of SENSOR is refused.) -/
def Obligations.InstancesShareNothing : Prop :=
  ∀ (s s' : State) (e : HostEvent) (rest rest' : List HostEvent),
    s.pending = e :: rest → s'.pending = e :: rest' →
    (e.target = .sensor → s.sensor = s'.sensor →
      (∀ t, step s = .next t → t.flash = s.flash ∧ ∃ t', step s' = .next t' ∧ t'.sensor = t.sensor) ∧
      (∀ r, step s = .fault r → step s' = .fault r)) ∧
    (e.target = .flash → s.flash = s'.flash →
      (∀ t, step s = .next t → t.sensor = s.sensor ∧ ∃ t', step s' = .next t' ∧ t'.flash = t.flash) ∧
      (∀ r, step s = .fault r → step s' = .fault r) ∧ (∀ r, step s = .refused r → step s' = .refused r))

/-! ### The framer (R90 to R101) -/

/-- R90: an assertion selects and changes nothing else; while asserted it changes nothing (D4). Decisions: D4. -/
def Obligations.ChipSelectAssertionOnlySelects : Prop :=
  ∀ s : State, exec (.csAssert .sensor) s =
    .next { s with sensor := { s.sensor with sel := true, response := none } }

/-- R91, R92: a deassertion and FINISH, from any phase, deselect, return to Idle and leave `target` unspecified (free);
the register file, the axis values and FLASH are unchanged. Decisions: D4, D5. -/
def Obligations.DeselectionDiscardsTheTransaction : Prop :=
  ∀ (i : Instr) (s : State), (i = .csDeassert .sensor ∨ i = .finish .sensor) →
    ∃ (a : Addr7) (n : Nat), exec i s = .next { s with sensor := { s.sensor with
      sel := false, phase := .idle, target := a, draws := n, response := none } }

/-- R92: FINISH has exactly the effect of CS(0), and either after the other has the effect of one, but for the
unspecified `target` drawn again. Decisions: D4, D5. -/
def Obligations.FinishIsDeselection : Prop :=
  (∀ s : State, exec (.finish .sensor) s = exec (.csDeassert .sensor) s) ∧
  (∀ s t : State, exec (.csDeassert .sensor) s = .next t → ∃ u, exec (.finish .sensor) t = .next u ∧
    { u with sensor := { u.sensor with target := t.sensor.target, draws := t.sensor.draws } } = t)

/-- R94: an address byte with RW = 1, while selected and Idle, sets `target` and the phase Reading, answers a drawn byte,
and touches nothing else; no register is read. Decisions: D6. -/
def Obligations.ReadAddressByteOpensReading : Prop :=
  ∀ (a : Addr7) (s : State), s.sensor.sel = true → s.sensor.phase = .idle →
    ∃ (r : Byte) (n : Nat), exec (.spiAddrRd a) s = .next { s with sensor := { s.sensor with
      target := a, phase := .reading, response := some (.byte r), draws := n } }

/-- R95: an address byte with RW = 0, while selected and Idle, sets `target` and the phase Writing, answers a drawn byte,
and touches nothing else; it writes no register and does not recompute. Decisions: D6. -/
def Obligations.WriteAddressByteOpensWriting : Prop :=
  ∀ (a : Addr7) (s : State), s.sensor.sel = true → s.sensor.phase = .idle →
    ∃ (r : Byte) (n : Nat), exec (.spiAddrWr a) s = .next { s with sensor := { s.sensor with
      target := a, phase := .writing, response := some (.byte r), draws := n } }

/-- R98: a transaction ends only by CS(0), FINISH or RESET. Over any events that hold none of these, however many, to
either instance, faulting or not, an open transaction keeps its phase and its target (R96, R101). -/
def Obligations.TransactionEndsOnlyByDeselectionOrReset : Prop :=
  ∀ (es : List HostEvent) (s : State), s.sensor.phase ≠ .idle →
    (∀ e ∈ es, e ≠ .sensor (.cs false) ∧ e ≠ .sensor .finish ∧ e ≠ .sensor .reset) →
    (runEvents es s).final.sensor.phase = s.sensor.phase ∧ (runEvents es s).final.sensor.target = s.sensor.target

/-- R100: after CS(0) then CS(1), from any phase and level, the next byte `b` is an address byte: bit 7 gives the
direction, bits 6:0 the target; no register has moved and nothing faulted. Decisions: D4, D6. -/
def Obligations.ReselectionRestartsDecoding : Prop :=
  ∀ (s : State) (b : Byte), s.sensor.faulted = none → ∃ (r : Byte) (n : Nat),
    runEvents [.sensor (.cs false), .sensor (.cs true), .sensor (.xfer b)] s =
      ⟨[none, none, some (.byte r)],
        { s with
          pending := []
          sensor := { s.sensor with
            sel := true, phase := if b.getLsbD 7 then .reading else .writing, target := b.extractLsb' 0 7,
            response := some (.byte r), draws := n } }⟩

/-- R22: while Idle no rule reads `target`. Two states that differ in it alone take every step alike, and once a
transaction is open they are the same. -/
def Obligations.TargetIsNotReadWhileIdle : Prop :=
  ∀ (s : State) (a : Addr7), s.sensor.phase = .idle →
    (∀ t, step s = .next t → ∃ t', step { s with sensor := { s.sensor with target := a } } = .next t' ∧
      { t' with sensor := { t'.sensor with target := t.sensor.target } } = t ∧
      (t.sensor.phase ≠ .idle → t' = t)) ∧
    (∀ r, step s = .fault r → step { s with sensor := { s.sensor with target := a } } = .fault r) ∧
    (∀ r, step s = .refused r → step { s with sensor := { s.sensor with target := a } } = .refused r)

/-! ### Data bytes and the register file (R28, R29, R110 to R114, R120) -/

/-- R110: a data byte in a Reading transaction answers SRegRead of the target, now, whatever its own value, and writes no
state. Decisions: D8, D15. -/
def Obligations.DataByteInReadingAnswersTheTarget : Prop :=
  ∀ (d : Byte) (s : State), s.sensor.sel = true → s.sensor.phase = .reading →
    exec (.spiDataRd d) s = .next { s with sensor := { s.sensor with
      response := some (.byte (sregRead Config.params s.sensor.target s.sensor)) } }

/-- R112, R28, R54: what each address reads as, for every map: the constant, the stored registers, the halves of the
encoder's code of the axis at the sensitivity FS selects, and 0x00 where nothing is mapped.
Decisions: D9, D10, D11, D12, D15, D19. -/
def Obligations.EveryAddressReadsAsItsRegister : Prop :=
  ∀ (P : Params) (s : Sensor),
    sregRead P (P.addr .whoami) s = 0x3F#8 ∧ sregRead P (P.addr .ctrl4) s = s.ctrl4 ∧
    sregRead P (P.addr .ctrl5) s = s.ctrl5 ∧ sregRead P (P.addr .status) s = s.status ∧
    (∀ a : Axis,
      sregRead P (P.addr (.out a .low)) s =
        (P.encode (s.axis.get a) (P.sens (s.ctrl5.extractLsb' P.ctrl5.fsLo 3))).extractLsb' 0 8 ∧
      sregRead P (P.addr (.out a .high)) s =
        (P.encode (s.axis.get a) (P.sens (s.ctrl5.extractLsb' P.ctrl5.fsLo 3))).extractLsb' 8 8) ∧
    (∀ a : Addr7, (∀ r, P.addr r ≠ a) → sregRead P a s = 0x00#8)

/-- R29: an unmapped address, one that is none of the ten of R23 (D11), reads as 0x00, and a write to it is dropped: every
address but STATUS reads as before it, STATUS being recomputed after every write data byte, a dropped one too (R111,
D47). Decisions: D11, D47. -/
def Obligations.UnmappedAddressReadsZeroAndDropsWrites : Prop :=
  ∀ (d : Byte) (s : State), s.sensor.sel = true → (∀ r, Config.params.addr r ≠ s.sensor.target) →
    (s.sensor.phase = .reading → ∃ t, exec (.spiDataRd d) s = .next t ∧
      t.sensor.response = some (.byte 0x00#8)) ∧
    (s.sensor.phase = .writing → ∃ t, exec (.spiDataWr d) s = .next t ∧
      ∀ a : Addr7, a ≠ Config.params.addr .status →
        sregRead Config.params a t.sensor = sregRead Config.params a s.sensor)

/-- R111, R113: a data byte in a Writing transaction stores all eight bits if the target is CTRL4 or CTRL5 and is dropped
for every other address; STATUS is recomputed from the CTRL4 that results whatever the target; the response is drawn;
nothing else moves. Decisions: D7, D12, D13, D14, D47. -/
def Obligations.DataByteInWritingStoresAndRecomputes : Prop :=
  ∀ (d : Byte) (s : State), s.sensor.sel = true → s.sensor.phase = .writing →
    ∃ (c : Byte) (r : Byte) (n : Nat),
      (s.sensor.target = Config.params.addr .ctrl4 → c = d) ∧
      (s.sensor.target ≠ Config.params.addr .ctrl4 → c = s.sensor.ctrl4) ∧
      exec (.spiDataWr d) s = .next { s with sensor := { s.sensor with
        ctrl4 := c
        ctrl5 := if s.sensor.target = Config.params.addr .ctrl5 then d else s.sensor.ctrl5
        status := withFlags Config.params s.sensor.status (dataAvailable Config.params c)
        response := some (.byte r)
        draws := n } }

/-- R114: after every SPI_DATA_WR and every SETEN the flags of STATUS are DA of CTRL4: all clear in power-down; the
combined flag alone when every axis is enabled; each axis's own enable otherwise; and no other bit of STATUS moves.
Decisions: D10, D17, D47. -/
def Obligations.FlagsFollowControlFourAfterEveryWrite : Prop :=
  ∀ (i : Instr) (s t : State), ((∃ d, i = .spiDataWr d) ∨ (∃ a e, i = .seten a e)) → exec i s = .next t →
    let c := t.sensor.ctrl4
    let L := Config.params.ctrl4
    let rateField := c.extractLsb' L.rateLo L.rateWidth
    let all := c.getLsbD L.xen = true ∧ c.getLsbD L.yen = true ∧ c.getLsbD L.zen = true
    let f := flagsOf Config.params t.sensor.status
    (rateField = 0 → f = ⟨false, false, false, false⟩) ∧
    (rateField ≠ 0 → all → f = ⟨false, false, false, true⟩) ∧
    (rateField ≠ 0 → ¬ all → f = ⟨c.getLsbD L.xen, c.getLsbD L.yen, c.getLsbD L.zen, false⟩) ∧
    (∀ k : Fin 8, otherStatusBit Config.params k → t.sensor.status.getLsbD k = s.sensor.status.getLsbD k)

/-- R120: no auto-increment. Any number of data bytes of one Reading transaction all answer the register first addressed;
of a Writing transaction all write it, the last one winning; `phase` and `target` stay. That a read repeats one value
whatever the bytes is R110's and R57's; that CTRL4 and CTRL5 hold the last byte whole is R113's. Decisions: D8, D12,
D15. -/
def Obligations.BurstsStayOnOneRegister : Prop :=
  ∀ (ds : List Byte) (s : State), s.sensor.faulted = none → s.sensor.sel = true →
    (s.sensor.phase = .reading →
      (runEvents (ds.map fun d => .sensor (.xfer d)) s).responses =
        List.replicate ds.length (some (.byte (sregRead Config.params s.sensor.target s.sensor))) ∧
      (runEvents (ds.map fun d => .sensor (.xfer d)) s).final.sensor.phase = .reading ∧
      (runEvents (ds.map fun d => .sensor (.xfer d)) s).final.sensor.target = s.sensor.target) ∧
    (s.sensor.phase = .writing →
      (runEvents (ds.map fun d => .sensor (.xfer d)) s).final.sensor.ctrl4 =
        (if s.sensor.target = Config.params.addr .ctrl4 then ds.getLastD s.sensor.ctrl4 else s.sensor.ctrl4) ∧
      (runEvents (ds.map fun d => .sensor (.xfer d)) s).final.sensor.ctrl5 =
        (if s.sensor.target = Config.params.addr .ctrl5 then ds.getLastD s.sensor.ctrl5 else s.sensor.ctrl5) ∧
      (runEvents (ds.map fun d => .sensor (.xfer d)) s).final.sensor.phase = .writing ∧
      (runEvents (ds.map fun d => .sensor (.xfer d)) s).final.sensor.target = s.sensor.target)

/-- RI §8 property 1 as C2 reads it (R111 to R113): written in one transaction and read in the next, CTRL4 and CTRL5 give
back every byte value; nothing faults or is refused. Decisions: D12. -/
def Obligations.ControlRegistersReadBackWhatWasWritten : Prop :=
  ∀ (r : SReg) (v : Byte) (s : State), (r = .ctrl4 ∨ r = .ctrl5) → s.sensor.faulted = none → s.sensor.phase = .idle →
    ∃ b1 b2 b3 : Byte,
      (runEvents (spiWrite (Config.params.addr r) [v] ++ spiRead (Config.params.addr r) 1) s).responses =
        [none, some (.byte b1), some (.byte b2), none, none, some (.byte b3), some (.byte v), none] ∧
      (runEvents (spiWrite (Config.params.addr r) [v] ++ spiRead (Config.params.addr r) 1) s).final.sensor.faulted = none ∧
      (runEvents (spiWrite (Config.params.addr r) [v] ++ spiRead (Config.params.addr r) 1) s).final.refused = s.refused

/-- R57: no read has a side effect. A data byte read, a read-data access or a get-sensitivity changes no register, flag,
axis value or framer state of either instance: only the answer and the count of draws. Decisions: D15, D30. -/
def Obligations.ReadsHaveNoSideEffect : Prop :=
  ∀ (i : Instr) (s t : State), ((∃ d, i = .spiDataRd d) ∨ i = .rdata ∨ i = .getsens) → exec i s = .next t →
    { t with
      sensor := { t.sensor with response := s.sensor.response }
      flash := { t.flash with response := s.flash.response, draws := s.flash.draws } } = s

/-- The frame of the register file: every one of the 128 addresses reads as before over every instruction but a write
data byte, SETACC, SETEN and RESET of SENSOR. Decisions: D13, D15, D22, D38. -/
def Obligations.OnlyFourInstructionsChangeWhatRegistersRead : Prop :=
  ∀ (i : Instr) (s t : State), (∀ d, i ≠ .spiDataWr d) → (∀ a v, i ≠ .setacc a v) → (∀ a e, i ≠ .seten a e) →
    i ≠ .reset .sensor → exec i s = .next t →
    ∀ a : Addr7, sregRead Config.params a t.sensor = sregRead Config.params a s.sensor

/-- R20 to R27, R30, R34, R35: what each piece of state is written by. A step that moves it takes one of these events:
`sel` a chip-select event, FINISH or RESET; `phase` and `target` an address byte (a byte while selected and Idle), CS(0),
FINISH or RESET; CTRL4 a data byte written to it, SETEN or RESET; CTRL5 a data byte written to it or RESET; STATUS a data
byte of a Writing transaction, SETEN or RESET; WHOAMI RESET alone; an axis value SETACC or RESET; the flash status a
command word with opcode 0x06 or 0xFF or RESET of FLASH; `lastCmd` a command-register write or RESET of FLASH. A step that
answers a next state sets no fault mark and no refusal mark. Decisions: D4, D5, D12, D13, D27, D36, D38. -/
def Obligations.EachRegisterMovesByItsOwnEventsOnly : Prop :=
  ∀ (s t : State) (e : HostEvent) (rest : List HostEvent), s.pending = e :: rest → step s = .next t →
    (t.sensor.sel ≠ s.sensor.sel →
      (∃ level, e = .sensor (.cs level)) ∨ e = .sensor .finish ∨ e = .sensor .reset) ∧
    (t.sensor.phase ≠ s.sensor.phase →
      (∃ b, e = .sensor (.xfer b) ∧ s.sensor.sel = true ∧ s.sensor.phase = .idle) ∨ e = .sensor (.cs false) ∨
      e = .sensor .finish ∨ e = .sensor .reset) ∧
    (t.sensor.target ≠ s.sensor.target →
      (∃ b, e = .sensor (.xfer b) ∧ s.sensor.sel = true ∧ s.sensor.phase = .idle) ∨ e = .sensor (.cs false) ∨
      e = .sensor .finish ∨ e = .sensor .reset) ∧
    (t.sensor.ctrl4 ≠ s.sensor.ctrl4 →
      (∃ b, e = .sensor (.xfer b) ∧ s.sensor.phase = .writing ∧ s.sensor.target = Config.params.addr .ctrl4) ∨
      (∃ a v, e = .sensor (.seten a v)) ∨ e = .sensor .reset) ∧
    (t.sensor.ctrl5 ≠ s.sensor.ctrl5 →
      (∃ b, e = .sensor (.xfer b) ∧ s.sensor.phase = .writing ∧ s.sensor.target = Config.params.addr .ctrl5) ∨
      e = .sensor .reset) ∧
    (t.sensor.status ≠ s.sensor.status →
      (∃ b, e = .sensor (.xfer b) ∧ s.sensor.phase = .writing) ∨ (∃ a v, e = .sensor (.seten a v)) ∨
      e = .sensor .reset) ∧
    (t.sensor.whoami ≠ s.sensor.whoami → e = .sensor .reset) ∧
    (t.sensor.axis ≠ s.sensor.axis → (∃ a v, e = .sensor (.setacc a v)) ∨ e = .sensor .reset) ∧
    (t.flash.fstatus ≠ s.flash.fstatus →
      (∃ w : Word, (w.extractLsb' 0 8 = 0x06#8 ∨ w.extractLsb' 0 8 = 0xFF#8) ∧
        (e = .flash (.wcmd w) ∨ e = .flash (.memWrite Config.params.cmdOffset (.b32 w)))) ∨ e = .flash .reset) ∧
    (t.flash.lastCmd ≠ s.flash.lastCmd →
      (∃ w, e = .flash (.wcmd w) ∨ e = .flash (.memWrite Config.params.cmdOffset (.b32 w))) ∨ e = .flash .reset) ∧
    t.sensor.faulted = s.sensor.faulted ∧ t.flash.faulted = s.flash.faulted ∧ t.refused = s.refused

/-- R171: a CTRL4 write with RATE = 0 clears the four flags of STATUS and nothing else: beside CTRL4 itself, the drawn
answer and the count of draws, no other bit of STATUS, no register, axis value or framer state, and nothing of FLASH
moves, and every OUT register reads as before. Decisions: D7, D12, D22. -/
def Obligations.PowerDownClearsTheFlagsAlone : Prop :=
  ∀ (d : Byte) (s : State), s.sensor.sel = true → s.sensor.phase = .writing →
    s.sensor.target = Config.params.addr .ctrl4 →
    d.extractLsb' Config.params.ctrl4.rateLo Config.params.ctrl4.rateWidth = 0 →
    ∃ (st r : Byte) (n : Nat),
      flagsOf Config.params st = ⟨false, false, false, false⟩ ∧
      (∀ k : Fin 8, otherStatusBit Config.params k → st.getLsbD k = s.sensor.status.getLsbD k) ∧
      exec (.spiDataWr d) s = .next { s with sensor := { s.sensor with
        ctrl4 := d, status := st, response := some (.byte r), draws := n } } ∧
      (∀ a h, sregRead Config.params (Config.params.addr (.out a h)) { s.sensor with
          ctrl4 := d, status := st, response := some (.byte r), draws := n } =
        sregRead Config.params (Config.params.addr (.out a h)) s.sensor)

/-- R171: power-down stops nothing. While RATE of CTRL4 is 0, from any phase and level, the next transaction reads any
address as its register, or writes any bytes, the last one winning: CTRL4 and CTRL5 take it and every other address
drops it, and the flags are DA of the CTRL4 that results, so a nonzero RATE written to CTRL4 leaves power-down.
Decisions: D4, D6, D7, D11, D12, D22, D47. -/
def Obligations.PowerDownStopsNothing : Prop :=
  ∀ (a : Addr7) (s : State), s.sensor.faulted = none →
    s.sensor.ctrl4.extractLsb' Config.params.ctrl4.rateLo Config.params.ctrl4.rateWidth = 0 →
    (∃ r : Byte, (runEvents (.sensor (.cs false) :: spiRead a 1) s).responses =
      [none, none, some (.byte r), some (.byte (sregRead Config.params a s.sensor)), none]) ∧
    (∀ (ds : List Byte) (v : Byte),
      let t := (runEvents (.sensor (.cs false) :: spiWrite a (ds ++ [v])) s).final.sensor
      t.ctrl4 = (if a = Config.params.addr .ctrl4 then v else s.sensor.ctrl4) ∧
      t.ctrl5 = (if a = Config.params.addr .ctrl5 then v else s.sensor.ctrl5) ∧
      flagsOf Config.params t.status = dataAvailable Config.params t.ctrl4 ∧ t.faulted = none)

/-! ### Encoder and stimulus (R115 to R124) -/

/-- R115: the sensitivity is SENS of CTRL5's FS field, and right after reset it is 2 mg/LSB. R121: GETSENS answers it and
writes nothing. Decisions: D39 (what GETSENS answers). -/
def Obligations.SensitivityIsSelectedByFullScale : Prop :=
  (∀ s : State, exec .getsens s = .next { s with sensor := { s.sensor with
    response := some (.rational (Config.params.sens (s.sensor.ctrl5.extractLsb' Config.params.ctrl5.fsLo 3))) } }) ∧
  fullScale Config.params State.reset.sensor.ctrl5 = 0 ∧
  (∀ s : Sensor, sensitivity Config.params s = Config.params.sens (s.ctrl5.extractLsb' Config.params.ctrl5.fsLo 3)) ∧
  sensitivity Config.params State.reset.sensor = 2

/-- R116, R122: an OUT register's value depends on its axis value and on FS alone, not on the axis enables, RATE or any
other state. Decisions: D19, D22. -/
def Obligations.OutputsDependOnAxisAndFullScaleAlone : Prop :=
  ∀ (P : Params) (s s' : Sensor) (a : Axis), s.axis.get a = s'.axis.get a →
    s.ctrl5.extractLsb' P.ctrl5.fsLo 3 = s'.ctrl5.extractLsb' P.ctrl5.fsLo 3 →
    ∀ h : Half, sregRead P (P.addr (.out a h)) s = sregRead P (P.addr (.out a h)) s'

/-- R117 (E3), RI §8 property 4: with FS = 0, a 1.0 g value set on an axis is read from its two OUT registers as a code
within one LSB of 500, whatever encoder the block has. Decisions: D19. -/
def Obligations.OneGravityReadsWithinOneLsb : Prop :=
  ∀ (a : Axis) (s : State), s.sensor.ctrl5.extractLsb' Config.params.ctrl5.fsLo 3 = 0 →
    ∃ t, exec (.setacc a 1) s = .next t ∧
      499 ≤ (sregRead Config.params (Config.params.addr (.out a .high)) t.sensor ++
        sregRead Config.params (Config.params.addr (.out a .low)) t.sensor : BitVec 16).toInt ∧
      (sregRead Config.params (Config.params.addr (.out a .high)) t.sensor ++
        sregRead Config.params (Config.params.addr (.out a .low)) t.sensor : BitVec 16).toInt ≤ 501

/-- R118: SETACC stores an in-range value, bounds included, in its own axis alone; a value out of range is rejected and
nothing moves. The bounds are D20's. Decisions: D20, D43. -/
def Obligations.SetAccelerationStoresInRangeValuesOnly : Prop :=
  ∀ (a : Axis) (v : Rat) (s : State),
    (-19 ≤ v → v ≤ 19 → ∃ w : AxisVals, w.get a = v ∧ (∀ b, b ≠ a → w.get b = s.sensor.axis.get b) ∧
      exec (.setacc a v) s = .next { s with sensor := { s.sensor with axis := w, response := none } }) ∧
    (v < -19 ∨ 19 < v → exec (.setacc a v) s = .next { s with sensor := { s.sensor with response := none } })

/-- R119: SETEN sets its axis's enable bit of CTRL4, no other bit of it, and recomputes STATUS; nothing else moves.
Decisions: D17, D38. -/
def Obligations.SetEnableWritesOneBitAndRecomputes : Prop :=
  ∀ (a : Axis) (e : Bool) (s : State), ∃ c : Byte,
    c.getLsbD (Config.params.ctrl4.enableBit a) = e ∧
    (∀ k : Fin 8, k ≠ Config.params.ctrl4.enableBit a → c.getLsbD k = s.sensor.ctrl4.getLsbD k) ∧
    exec (.seten a e) s = .next { s with sensor := { s.sensor with
      ctrl4 := c
      status := withFlags Config.params s.sensor.status (dataAvailable Config.params c)
      response := none } }

/-- R124: SETACC, SETEN and GETSENS neither depend on nor change `sel`, `phase` or `target`. -/
def Obligations.StimulusIgnoresTheFramer : Prop :=
  ∀ (i : Instr) (s : State), ((∃ a v, i = .setacc a v) ∨ (∃ a e, i = .seten a e) ∨ i = .getsens) →
    ∃ t, exec i s = .next t ∧
      t.sensor.sel = s.sensor.sel ∧ t.sensor.phase = s.sensor.phase ∧ t.sensor.target = s.sensor.target ∧
      (∀ sel phase target,
        exec i { s with sensor := { s.sensor with sel := sel, phase := phase, target := target } } =
          .next { t with sensor := { t.sensor with sel := sel, phase := phase, target := target } })

/-! ### FLASH (R140 to R150) -/

/-- R141: FL_WREN sets WEL and no other status bit, and `lastCmd` is the word. -/
def Obligations.WriteEnableSetsTheLatchAlone : Prop :=
  ∀ (arg : BitVec 24) (s : State), ∃ f : Byte,
    f.getLsbD 1 = true ∧ (∀ k : Fin 8, k ≠ 1 → f.getLsbD k = s.flash.fstatus.getLsbD k) ∧
    exec (.flWren arg) s = .next { s with flash := { s.flash with
      lastCmd := arg ++ 0x06#8, fstatus := f, response := none } }

/-- R142: FL_EXITCM clears the whole status register in every state, and `lastCmd` is the word, not reset.
Decisions: D40. -/
def Obligations.ExitContinuousModeClearsTheStatus : Prop :=
  ∀ (arg : BitVec 24) (s : State), exec (.flExitcm arg) s = .next { s with flash := { s.flash with
    lastCmd := arg ++ 0xFF#8, fstatus := 0x00#8, response := none } }

/-- R143, R144, R145: FL_RDID, FL_RDSR and FL_UNIMPL record the word and change nothing else. Decisions: D25, D27. -/
def Obligations.OtherCommandsOnlyRecordTheWord : Prop :=
  ∀ (arg : BitVec 24) (s : State),
    exec (.flRdid arg) s = .next { s with flash := { s.flash with lastCmd := arg ++ 0x9F#8, response := none } } ∧
    exec (.flRdsr arg) s =
      .next { s with flash := { s.flash with lastCmd := arg ++ Config.params.opRdsr, response := none } } ∧
    (∀ op : Byte, op ≠ 0x06#8 → op ≠ 0xFF#8 → op ≠ 0x9F#8 → op ≠ Config.params.opRdsr →
      exec (.flUnimpl arg op) s = .next { s with flash := { s.flash with lastCmd := arg ++ op, response := none } })

/-- R140: a command-register write records the word, whatever its opcode, has no response, and executes the opcode of
bits 7:0. Decisions: D26, D27. -/
def Obligations.CommandWriteRecordsAndExecutes : Prop :=
  ∀ (w : Word) (s : State),
    exec (.wcmd w) s = exec (decodeWord Config.params w) s ∧
    ∃ f : Byte, exec (.wcmd w) s = .next { s with flash := { s.flash with lastCmd := w, fstatus := f, response := none } } ∧
      (w &&& 0x000000FF#32 = 0x00000006#32 → f = s.flash.fstatus ||| 0x02#8) ∧
      (w &&& 0x000000FF#32 = 0x000000FF#32 → f = 0x00#8) ∧
      (w &&& 0x000000FF#32 ≠ 0x00000006#32 → w &&& 0x000000FF#32 ≠ 0x000000FF#32 → f = s.flash.fstatus)

/-- R147: a read-data access answers all ones after an ID read, the live status, zero-extended, after a status read, and a
drawn word after anything else; it writes no state. Decisions: D28, D29, D30. -/
def Obligations.ReadDataAnswersForTheLastCommand : Prop :=
  ∀ s : State, ∃ (w : Word) (n : Nat),
    exec .rdata s = .next { s with flash := { s.flash with response := some (.word w), draws := n } } ∧
    (s.flash.lastCmd.extractLsb' 0 8 = 0x9F#8 → w = 0xFFFFFFFF#32) ∧
    (s.flash.lastCmd.extractLsb' 0 8 = Config.params.opRdsr → w = 0x000000#24 ++ s.flash.fstatus)

/-- R143: after FL_RDID, whatever its upper bits and whatever the status register holds, every one of any number of
read-data accesses returns 0xFFFFFFFF; the status register is unchanged. That it and the recorded word stand through the
accesses is R146's and R35's. Decisions: D30. -/
def Obligations.ReadIdIsAnsweredWithAllOnes : Prop :=
  ∀ (arg : BitVec 24) (n : Nat) (s : State), s.flash.faulted = none →
    (runEvents (.flash (.wcmd (arg ++ 0x9F#8)) :: List.replicate n (.flash .rdata)) s).responses =
      none :: List.replicate n (some (.word 0xFFFFFFFF#32)) ∧
    (runEvents (.flash (.wcmd (arg ++ 0x9F#8)) :: List.replicate n (.flash .rdata)) s).final.flash.fstatus =
      s.flash.fstatus ∧
    (runEvents (.flash (.wcmd (arg ++ 0x9F#8)) :: List.replicate n (.flash .rdata)) s).final.flash.lastCmd =
      arg ++ 0x9F#8

/-- RI §8 property 5 (R141, R142, R144, R147): write enable, seen through a status query, sets WEL and keeps the other
bits; exit continuous mode, seen the same way, clears them all. Decisions: D25, D29, D30, D40. -/
def Obligations.StatusQueriesShowTheLatch : Prop :=
  ∀ s : State, s.flash.faulted = none →
    (runEvents (flCmd 0x06#8 ++ flQuery Config.params.opRdsr ++ flCmd 0xFF#8 ++ flQuery Config.params.opRdsr) s).responses =
      [none, none, some (.word (0x000000#24 ++ (s.flash.fstatus ||| 0x02#8))),
       none, none, some (.word 0x00000000#32)]

/-- R148: the write-enable latch, once set, is cleared only by FL_EXITCM or RESET of FLASH, and is set only by FL_WREN,
however the word reaches the command register. Decisions: D23, D27. -/
def Obligations.WriteEnableLatchMovesByItsCommandsOnly : Prop :=
  ∀ (s t : State) (e : HostEvent) (rest : List HostEvent), s.pending = e :: rest → step s = .next t →
    (wel s.flash.fstatus = true → wel t.flash.fstatus = false →
      e = .flash .reset ∨ ∃ w : Word, w.extractLsb' 0 8 = 0xFF#8 ∧
        (e = .flash (.wcmd w) ∨ e = .flash (.memWrite Config.params.cmdOffset (.b32 w)))) ∧
    (wel s.flash.fstatus = false → wel t.flash.fstatus = true →
      ∃ w : Word, w.extractLsb' 0 8 = 0x06#8 ∧
        (e = .flash (.wcmd w) ∨ e = .flash (.memWrite Config.params.cmdOffset (.b32 w))))

/-- R52, R53: a 32-bit write at P_FLASH_CMD_OFFSET is WCMD and a 32-bit read at P_FLASH_RDATA_OFFSET is RDATA; every other
register-bus access, of another width or at another offset, is refused and changes nothing but the run's mark (R161). Decisions: D23, D24. -/
def Obligations.OnlyTheTwoRegisterBusAccessesHaveAMeaning : Prop :=
  ∀ (s : State) (rest : List HostEvent) (off : Nat), s.flash.faulted = none →
    (∀ w : Word, s.pending = .flash (.memWrite off (.b32 w)) :: rest → off = Config.params.cmdOffset →
      step s = exec (.wcmd w) { s with pending := rest }) ∧
    (s.pending = .flash (.memRead off .w32) :: rest → off = Config.params.rdataOffset →
      step s = exec .rdata { s with pending := rest }) ∧
    (∀ d : BusData, s.pending = .flash (.memWrite off d) :: rest → (off ≠ Config.params.cmdOffset ∨ ∀ w, d ≠ .b32 w) →
      step s = .refused .flashAccess ∧ afterStep s = { s with pending := rest, refused := true }) ∧
    (∀ k : BusWidth, s.pending = .flash (.memRead off k) :: rest → (off ≠ Config.params.rdataOffset ∨ k ≠ .w32) →
      step s = .refused .flashAccess ∧ afterStep s = { s with pending := rest, refused := true })

/-- R149: CS, FINISH and XFER delivered to FLASH are refused and change nothing but the run's mark.
Decisions: D32, D37. -/
def Obligations.FlashRefusesTheSerialTransport : Prop :=
  (∀ s : State, exec (.csAssert .flash) s = .refused .flashSerial ∧ exec (.csDeassert .flash) s = .refused .flashSerial ∧
    exec (.finish .flash) s = .refused .flashSerial) ∧
  (∀ (s : State) (e : FlashEvent) (rest : List HostEvent), s.pending = .flash e :: rest → s.flash.faulted = none →
    ((∃ level, e = .cs level) ∨ e = .finish ∨ (∃ b, e = .xfer b)) →
    step s = .refused .flashSerial ∧ afterStep s = { s with pending := rest, refused := true })

/-! ### Faults and refusals (R97, R160 to R167) -/

/-- R93, R160: an event of SENSOR faults exactly when it is a byte that arrives while chip-select is deasserted, and the
reason records the byte. Decisions: D3. -/
def Obligations.SensorFaultsExactlyOnAnUnselectedByte : Prop :=
  ∀ (s : State) (e : SensorEvent) (rest : List HostEvent), s.pending = .sensor e :: rest → s.sensor.faulted = none →
    ∀ r, step s = .fault r ↔ ∃ b, e = .xfer b ∧ s.sensor.sel = false ∧ r = .unselectedByte b

/-- R97: a data byte processed in Idle is F_IDLE_DATA, and no event reaches it: a step never answers it unless the
instance had faulted so before. -/
def Obligations.IdleDataIsUnreachable : Prop :=
  (∀ (d : Byte) (s : State), s.sensor.sel = true → s.sensor.phase = .idle →
    exec (.spiDataRd d) s = .fault (.idleData d) ∧ exec (.spiDataWr d) s = .fault (.idleData d)) ∧
  (∀ (s : State) (b : Byte), s.sensor.faulted ≠ some (.idleData b) → s.flash.faulted ≠ some (.idleData b) →
    step s ≠ .fault (.idleData b))

/-- R93: each of the four byte rows, met while chip-select is deasserted, is F_UNSELECTED_BYTE of its byte.
Decisions: D3. -/
def Obligations.ByteRowsFaultWhileDeselected : Prop :=
  ∀ s : State, s.sensor.sel = false →
    (∀ a : Addr7, exec (.spiAddrRd a) s = .fault (.unselectedByte (1#1 ++ a)) ∧
      exec (.spiAddrWr a) s = .fault (.unselectedByte (0#1 ++ a))) ∧
    (∀ d : Byte, exec (.spiDataRd d) s = .fault (.unselectedByte d) ∧ exec (.spiDataWr d) s = .fault (.unselectedByte d))

/-- R160, R161: FLASH never faults and SENSOR never refuses; FLASH's refusals are the two of R161.
Decisions: D3, D24, D32. -/
def Obligations.EachInstanceStopsForItsOwnReasonsOnly : Prop :=
  ∀ (s : State) (e : HostEvent) (rest : List HostEvent), s.pending = e :: rest → s.faultOf e.target = none →
    (e.target = .sensor → ∀ r, step s ≠ .refused r) ∧
    (e.target = .flash → (∀ r, step s ≠ .fault r) ∧
      (∀ r, step s = .refused r → r = .flashSerial ∨ r = .flashAccess))

/-- R166: a fault leaves the state as it was before the faulting event, with the instance's mark set to the reason and the
event consumed. Decisions: D37. -/
def Obligations.FaultAppliesNothingOfItsEvent : Prop :=
  ∀ (s : State) (e : SensorEvent) (rest : List HostEvent) (r : Fault), s.pending = .sensor e :: rest →
    step s = .fault r →
    afterStep s = { s with pending := rest, sensor := { s.sensor with faulted := some r } }

/-- R162, C11: a faulted instance takes no further step, on any events, RESET included, while the other goes on: it ends
as its own events alone leave it, beside any other state of the faulted one. The run's refusal mark is never cleared
(R36). Decisions: D37. -/
def Obligations.FaultsAndRefusalsAreFinal : Prop :=
  ∀ (es : List HostEvent) (s : State),
    (s.sensor.faulted ≠ none → (runEvents es s).final.sensor = s.sensor ∧
      ∀ s' : State, s'.flash = s.flash → (runEvents es s).final.flash =
        (runEvents (es.filter fun e => decide (e.target = .flash)) s').final.flash) ∧
    (s.flash.faulted ≠ none → (runEvents es s).final.flash = s.flash ∧
      ∀ s' : State, s'.sensor = s.sensor → (runEvents es s).final.sensor =
        (runEvents (es.filter fun e => decide (e.target = .sensor)) s').final.sensor) ∧
    (s.refused = true → (runEvents es s).final.refused = true)

/-- R162: a step on an event of a faulted instance answers the fault again (log 9), and drops the event.
Decisions: D37. -/
def Obligations.FaultedInstanceAnswersItsFault : Prop :=
  ∀ (s : State) (e : HostEvent) (rest : List HostEvent) (r : Fault), s.pending = e :: rest →
    s.faultOf e.target = some r → step s = .fault r ∧ afterStep s = { s with pending := rest }
end

