-- ==== Sys2Proof/Laws/Bits.lean ====
section
/-! SUPPORT. What the bit-field helpers do, bit by bit. -/

namespace Sys2Proof.Machine

theorem setBit_getLsbD (v : Byte) (i j : Fin 8) (b : Bool) :
    (setBit v i b).getLsbD j = if j = i then b else v.getLsbD j := by
  have hi := i.isLt
  have hj := j.isLt
  cases b <;> simp only [setBit, Bool.false_eq_true, if_true, if_false, BitVec.getLsbD_or, BitVec.getLsbD_and,
    BitVec.getLsbD_not, BitVec.getLsbD_shiftLeft, BitVec.getLsbD_one]
  · rcases eq_or_ne j i with rfl | h
    · simp
    · have hv : j.val ≠ i.val := fun e => h (Fin.ext e)
      rcases Nat.lt_or_ge j.val i.val with h1 | h1
      · simp [h, h1]
      · simp [h, show (j.val - i.val ≠ 0) by omega]
  · rcases eq_or_ne j i with rfl | h
    · simp
    · have hv : j.val ≠ i.val := fun e => h (Fin.ext e)
      rcases Nat.lt_or_ge j.val i.val with h1 | h1
      · simp [h, h1]
      · simp [h, show (j.val - i.val ≠ 0) by omega]

/-- The same for `v[j]`, the form in which simp reads a bit. -/
@[simp] theorem setBit_getElem (v : Byte) (i j : Fin 8) (b : Bool) :
    (setBit v i b)[j.val] = if j = i then b else v[j.val] := by
  simpa using setBit_getLsbD v i j b

/-- Two bytes are equal when their bits are. -/
theorem byte_ext {v w : Byte} (h : ∀ i : Fin 8, v.getLsbD i = w.getLsbD i) : v = w := by
  apply BitVec.eq_of_getLsbD_eq
  intro i hi
  exact h ⟨i, hi⟩

/-- The two halves make up the raw code (R54). -/
@[simp] theorem halves_append (raw : Raw) : halfOf .high raw ++ halfOf .low raw = raw := by
  simp only [halfOf]
  apply BitVec.eq_of_getLsbD_eq
  intro i hi
  rw [BitVec.getLsbD_append]
  split
  · next h => simp [h]
  · next h => simp [show i - 8 < 8 by omega, show 8 + (i - 8) = i by omega]

end Sys2Proof.Machine
end

