-- ==== Sys2Proof/Laws/Decode.lean ====
section
/-! SUPPORT. The fields of an address byte and of a command word (R71, R73), and what the opcode map answers (R74). -/

namespace Sys2Proof

@[simp] theorem rwOf_addressByte (rw : Bool) (a : Addr7) : rwOf (addressByte rw a) = rw := by
  revert rw a; decide

@[simp] theorem addrOf_addressByte (rw : Bool) (a : Addr7) : addrOf (addressByte rw a) = a := by
  revert rw a; decide

/-- An address byte is made of its two fields. -/
@[simp] theorem addressByte_fields (b : Byte) : addressByte (rwOf b) (addrOf b) = b := by
  revert b; decide

@[simp] theorem opOf_commandWord (arg : BitVec 24) (op : Byte) : opOf (commandWord arg op) = op := by
  apply BitVec.eq_of_getLsbD_eq
  intro i hi
  rw [opOf, commandWord, BitVec.getLsbD_extractLsb', BitVec.getLsbD_append]
  simp [hi]

@[simp] theorem argOf_commandWord (arg : BitVec 24) (op : Byte) : argOf (commandWord arg op) = arg := by
  apply BitVec.eq_of_getLsbD_eq
  intro i hi
  rw [argOf, commandWord, BitVec.getLsbD_extractLsb', BitVec.getLsbD_append]
  simp [hi]

/-- A command word is made of its two fields. -/
@[simp] theorem commandWord_fields (w : Word) : commandWord (argOf w) (opOf w) = w := by
  apply BitVec.eq_of_getLsbD_eq
  intro i hi
  simp only [opOf, argOf, commandWord, BitVec.getLsbD_append]
  split
  · next h => simp [h]
  · next h => simp [show i - 8 < 24 by omega, show 8 + (i - 8) = i by omega]

/-- An opcode of no other row: what FL_UNIMPL's well-formedness says (R74, R76). -/
theorem implementedOpcode_eq_false {P : Params} {op : Byte} :
    implementedOpcode P op = false ↔
      op ≠ Literal.opWren ∧ op ≠ Literal.opExitcm ∧ op ≠ Literal.opRdid ∧ op ≠ P.opRdsr := by
  simp [implementedOpcode, and_assoc]

end Sys2Proof
end

