-- ==== Sys2Proof/Laws/Flags.lean ====
section
/-! SUPPORT. The recomputation writes exactly the four data-available flags (R27, R114); WEL is one bit (R141). -/

namespace Sys2Proof.Machine

/-- The four positions of P_STATUS_LAYOUT are different bits. -/
theorem status_positions (P : Params) :
    P.status.xda ≠ P.status.yda ∧ P.status.xda ≠ P.status.zda ∧ P.status.xda ≠ P.status.zyxda ∧
      P.status.yda ≠ P.status.zda ∧ P.status.yda ≠ P.status.zyxda ∧ P.status.zda ≠ P.status.zyxda := by
  have h := P.status.distinct
  simp only [List.nodup_cons, List.mem_cons, List.not_mem_nil, or_false, not_or] at h
  tauto

@[simp] theorem flagsOf_withFlags (P : Params) (st : Byte) (f : DaFlags) : flagsOf P (withFlags P st f) = f := by
  obtain ⟨h1, h2, h3, h4, h5, h6⟩ := status_positions P
  cases f
  simp [flagsOf, withFlags, h1, h2, h3, h4, h5, h6]

theorem withFlags_other {P : Params} {i : Fin 8} (st : Byte) (f : DaFlags) (h : otherStatusBit P i) :
    (withFlags P st f).getLsbD i = st.getLsbD i := by
  obtain ⟨h1, h2, h3, h4⟩ := h
  simp [withFlags, h1, h2, h3, h4]

@[simp] theorem flagsOf_recomputed (P : Params) (c st : Byte) : flagsOf P (recomputed P c st) = dataAvailable P c :=
  flagsOf_withFlags P st _

theorem recomputed_other {P : Params} {i : Fin 8} (c st : Byte) (h : otherStatusBit P i) :
    (recomputed P c st).getLsbD i = st.getLsbD i := withFlags_other st _ h

@[simp] theorem withWel_getElem (st : Byte) (j : Fin 8) :
    (withWel st)[j.val] = if j = 1 then true else st[j.val] := setBit_getElem st 1 j true

/-- Setting WEL is `or` with 0x02. -/
theorem withWel_eq_or (st : Byte) : withWel st = st ||| 0x02#8 := by
  simp [withWel, setBit]

theorem clampAccel_mem (v : Rat) : Literal.accelMin ≤ clampAccel v ∧ clampAccel v ≤ Literal.accelMax := by
  refine ⟨le_max_left _ _, max_le ?_ (min_le_left _ _)⟩
  decide

/-- Every value of the valid range is a possible draw (R30): clamping gives it back. -/
theorem clampAccel_of_mem {v : Rat} (h : Literal.accelMin ≤ v ∧ v ≤ Literal.accelMax) : clampAccel v = v := by
  simp [clampAccel, h.1, h.2]

theorem drawAccel_mem (n : Nat) : Literal.accelMin ≤ drawAccel n ∧ drawAccel n ≤ Literal.accelMax :=
  clampAccel_mem _

end Sys2Proof.Machine
end

