-- ==== Sys2Proof/Laws/State.lean ====
section
/-! SUPPORT. One lemma per field for each update of the state (spec/10_state.md), true by computation. -/

namespace Sys2Proof.Machine

section Machine
variable (s : State) (f : Sensor → Sensor) (g : Flash → Flash)

@[simp] theorem onSensor_sensor : (s.onSensor f).sensor = f s.sensor := rfl
@[simp] theorem onSensor_flash : (s.onSensor f).flash = s.flash := rfl
@[simp] theorem onSensor_refused : (s.onSensor f).refused = s.refused := rfl
@[simp] theorem onSensor_pending : (s.onSensor f).pending = s.pending := rfl
@[simp] theorem onFlash_sensor : (s.onFlash g).sensor = s.sensor := rfl
@[simp] theorem onFlash_flash : (s.onFlash g).flash = g s.flash := rfl
@[simp] theorem onFlash_refused : (s.onFlash g).refused = s.refused := rfl
@[simp] theorem onFlash_pending : (s.onFlash g).pending = s.pending := rfl
@[simp] theorem faultOf_sensor : s.faultOf .sensor = s.sensor.faulted := rfl
@[simp] theorem faultOf_flash : s.faultOf .flash = s.flash.faulted := rfl
@[simp] theorem responseOf_sensor : s.responseOf .sensor = s.sensor.response := rfl
@[simp] theorem responseOf_flash : s.responseOf .flash = s.flash.response := rfl

end Machine

section Sensor
variable (s : Sensor) (r : Response)

@[simp] theorem answer_sel : (s.answer r).sel = s.sel := rfl
@[simp] theorem answer_phase : (s.answer r).phase = s.phase := rfl
@[simp] theorem answer_target : (s.answer r).target = s.target := rfl
@[simp] theorem answer_whoami : (s.answer r).whoami = s.whoami := rfl
@[simp] theorem answer_ctrl4 : (s.answer r).ctrl4 = s.ctrl4 := rfl
@[simp] theorem answer_ctrl5 : (s.answer r).ctrl5 = s.ctrl5 := rfl
@[simp] theorem answer_status : (s.answer r).status = s.status := rfl
@[simp] theorem answer_axis : (s.answer r).axis = s.axis := rfl
@[simp] theorem answer_faulted : (s.answer r).faulted = s.faulted := rfl
@[simp] theorem answer_response : (s.answer r).response = some r := rfl
@[simp] theorem answer_draws : (s.answer r).draws = s.draws := rfl

@[simp] theorem silent_sel : s.silent.sel = s.sel := rfl
@[simp] theorem silent_phase : s.silent.phase = s.phase := rfl
@[simp] theorem silent_target : s.silent.target = s.target := rfl
@[simp] theorem silent_whoami : s.silent.whoami = s.whoami := rfl
@[simp] theorem silent_ctrl4 : s.silent.ctrl4 = s.ctrl4 := rfl
@[simp] theorem silent_ctrl5 : s.silent.ctrl5 = s.ctrl5 := rfl
@[simp] theorem silent_status : s.silent.status = s.status := rfl
@[simp] theorem silent_axis : s.silent.axis = s.axis := rfl
@[simp] theorem silent_faulted : s.silent.faulted = s.faulted := rfl
@[simp] theorem silent_response : s.silent.response = none := rfl
@[simp] theorem silent_draws : s.silent.draws = s.draws := rfl

@[simp] theorem answerDrawn_sel : s.answerDrawn.sel = s.sel := rfl
@[simp] theorem answerDrawn_phase : s.answerDrawn.phase = s.phase := rfl
@[simp] theorem answerDrawn_target : s.answerDrawn.target = s.target := rfl
@[simp] theorem answerDrawn_whoami : s.answerDrawn.whoami = s.whoami := rfl
@[simp] theorem answerDrawn_ctrl4 : s.answerDrawn.ctrl4 = s.ctrl4 := rfl
@[simp] theorem answerDrawn_ctrl5 : s.answerDrawn.ctrl5 = s.ctrl5 := rfl
@[simp] theorem answerDrawn_status : s.answerDrawn.status = s.status := rfl
@[simp] theorem answerDrawn_axis : s.answerDrawn.axis = s.axis := rfl
@[simp] theorem answerDrawn_faulted : s.answerDrawn.faulted = s.faulted := rfl
@[simp] theorem answerDrawn_response : s.answerDrawn.response = some (.byte (Config.freeByte s.draws)) := rfl
@[simp] theorem answerDrawn_draws : s.answerDrawn.draws = s.draws + 1 := rfl

variable (ph : Phase) (a : Addr7)

@[simp] theorem openTransaction_sel : (openTransaction ph a s).sel = s.sel := rfl
@[simp] theorem openTransaction_phase : (openTransaction ph a s).phase = ph := rfl
@[simp] theorem openTransaction_target : (openTransaction ph a s).target = a := rfl
@[simp] theorem openTransaction_whoami : (openTransaction ph a s).whoami = s.whoami := rfl
@[simp] theorem openTransaction_ctrl4 : (openTransaction ph a s).ctrl4 = s.ctrl4 := rfl
@[simp] theorem openTransaction_ctrl5 : (openTransaction ph a s).ctrl5 = s.ctrl5 := rfl
@[simp] theorem openTransaction_status : (openTransaction ph a s).status = s.status := rfl
@[simp] theorem openTransaction_axis : (openTransaction ph a s).axis = s.axis := rfl
@[simp] theorem openTransaction_faulted : (openTransaction ph a s).faulted = s.faulted := rfl

@[simp] theorem deselect_sel : (deselect s).sel = false := rfl
@[simp] theorem deselect_phase : (deselect s).phase = .idle := rfl
@[simp] theorem deselect_whoami : (deselect s).whoami = s.whoami := rfl
@[simp] theorem deselect_ctrl4 : (deselect s).ctrl4 = s.ctrl4 := rfl
@[simp] theorem deselect_ctrl5 : (deselect s).ctrl5 = s.ctrl5 := rfl
@[simp] theorem deselect_status : (deselect s).status = s.status := rfl
@[simp] theorem deselect_axis : (deselect s).axis = s.axis := rfl
@[simp] theorem deselect_faulted : (deselect s).faulted = s.faulted := rfl
@[simp] theorem deselect_response : (deselect s).response = none := rfl

variable (P : Params)

@[simp] theorem recompute_sel : (recompute P s).sel = s.sel := rfl
@[simp] theorem recompute_phase : (recompute P s).phase = s.phase := rfl
@[simp] theorem recompute_target : (recompute P s).target = s.target := rfl
@[simp] theorem recompute_whoami : (recompute P s).whoami = s.whoami := rfl
@[simp] theorem recompute_ctrl4 : (recompute P s).ctrl4 = s.ctrl4 := rfl
@[simp] theorem recompute_ctrl5 : (recompute P s).ctrl5 = s.ctrl5 := rfl
@[simp] theorem recompute_status : (recompute P s).status = recomputed P s.ctrl4 s.status := rfl
@[simp] theorem recompute_axis : (recompute P s).axis = s.axis := rfl
@[simp] theorem recompute_faulted : (recompute P s).faulted = s.faulted := rfl
@[simp] theorem recompute_draws : (recompute P s).draws = s.draws := rfl

end Sensor

section Flash
variable (f : Flash) (r : Response) (w : Word)

@[simp] theorem flash_answer_fstatus : (f.answer r).fstatus = f.fstatus := rfl
@[simp] theorem flash_answer_lastCmd : (f.answer r).lastCmd = f.lastCmd := rfl
@[simp] theorem flash_answer_faulted : (f.answer r).faulted = f.faulted := rfl
@[simp] theorem flash_answer_response : (f.answer r).response = some r := rfl
@[simp] theorem flash_answer_draws : (f.answer r).draws = f.draws := rfl
@[simp] theorem flash_answerDrawn_fstatus : f.answerDrawn.fstatus = f.fstatus := rfl
@[simp] theorem flash_answerDrawn_lastCmd : f.answerDrawn.lastCmd = f.lastCmd := rfl
@[simp] theorem flash_answerDrawn_faulted : f.answerDrawn.faulted = f.faulted := rfl
@[simp] theorem flash_answerDrawn_draws : f.answerDrawn.draws = f.draws + 1 := rfl
@[simp] theorem recordCommand_fstatus : (recordCommand w f).fstatus = f.fstatus := rfl
@[simp] theorem recordCommand_lastCmd : (recordCommand w f).lastCmd = w := rfl
@[simp] theorem recordCommand_faulted : (recordCommand w f).faulted = f.faulted := rfl
@[simp] theorem recordCommand_response : (recordCommand w f).response = none := rfl
@[simp] theorem recordCommand_draws : (recordCommand w f).draws = f.draws := rfl

end Flash

section Marks
variable (s : State) (r : Fault)

@[simp] theorem takeFault_sensor_faultOf : (takeFault .sensor r s).sensor = { s.sensor with faulted := some r } := rfl
@[simp] theorem takeFault_sensor_flash : (takeFault .sensor r s).flash = s.flash := rfl
@[simp] theorem takeFault_flash_sensor : (takeFault .flash r s).sensor = s.sensor := rfl
@[simp] theorem takeFault_flash_flash : (takeFault .flash r s).flash = { s.flash with faulted := some r } := rfl
@[simp] theorem takeRefusal_sensor : (takeRefusal s).sensor = s.sensor := rfl
@[simp] theorem takeRefusal_flash : (takeRefusal s).flash = s.flash := rfl
@[simp] theorem takeRefusal_refused : (takeRefusal s).refused = true := rfl
@[simp] theorem takeRefusal_pending : (takeRefusal s).pending = s.pending := rfl

@[simp] theorem takeFault_refused (i : Instance) : (takeFault i r s).refused = s.refused := by cases i <;> rfl
@[simp] theorem takeFault_pending (i : Instance) : (takeFault i r s).pending = s.pending := by cases i <;> rfl
@[simp] theorem takeFault_faultOf (i : Instance) : (takeFault i r s).faultOf i = some r := by cases i <;> rfl

end Marks

end Sys2Proof.Machine
end

