-- ==== Sys2Proof/Laws/Operands.lean ====
section
/-! SUPPORT. The sensor register file: which register an address names (R23), what a read answers (R112), what a write
changes (R113). -/

namespace Sys2Proof.Machine

theorem SReg.mem_all (r : SReg) : r ∈ SReg.all := by
  rcases r with _ | _ | _ | _ | ⟨_ | _ | _, _ | _⟩ <;> decide

@[simp] theorem regAt_addr (P : Params) (r : SReg) : regAt P (P.addr r) = some r := by
  unfold regAt
  cases h : SReg.all.find? (fun q => P.addr q == P.addr r) with
  | none => simp at h; exact absurd rfl (h r (SReg.mem_all r))
  | some q =>
    have hq := List.find?_some h
    rw [P.addr_inj q r (by simpa using hq)]

theorem regAt_eq_some {P : Params} {a : Addr7} {r : SReg} (h : regAt P a = some r) : a = P.addr r := by
  have hr : P.addr r = a := by simpa using List.find?_some h
  exact hr.symm

theorem regAt_eq_none {P : Params} {a : Addr7} (h : ∀ r, P.addr r ≠ a) : regAt P a = none := by
  simp only [regAt, List.find?_eq_none, beq_iff_eq]
  exact fun r _ => h r

@[simp] theorem sregRead_addr (P : Params) (r : SReg) (s : Sensor) : sregRead P (P.addr r) s = readReg P r s := by
  simp [sregRead]

theorem sregRead_unmapped {P : Params} {a : Addr7} (h : ∀ r, P.addr r ≠ a) (s : Sensor) :
    sregRead P a s = Literal.unmappedRead := by
  simp [sregRead, regAt_eq_none h]

/-- A read depends on the registers and the axis values alone. -/
theorem sregRead_congr {P : Params} {s t : Sensor} (h4 : s.ctrl4 = t.ctrl4) (h5 : s.ctrl5 = t.ctrl5)
    (hs : s.status = t.status) (ha : s.axis = t.axis) (a : Addr7) : sregRead P a s = sregRead P a t := by
  unfold sregRead
  cases regAt P a with
  | none => rfl
  | some r => cases r <;> simp [readReg, rawCode, sensitivity, h4, h5, hs, ha]

/-- Everything a bus write can do (R113): CTRL4 or CTRL5 takes the byte when it is addressed, and nothing else moves. -/
theorem sregWrite_eq (P : Params) (a : Addr7) (v : Byte) (s : Sensor) :
    sregWrite P a v s =
      { s with
        ctrl4 := if a = P.addr .ctrl4 then v else s.ctrl4
        ctrl5 := if a = P.addr .ctrl5 then v else s.ctrl5 } := by
  unfold sregWrite
  cases h : regAt P a with
  | none =>
    have hne : ∀ r, a ≠ P.addr r := fun r e => by simp [e] at h
    simp [hne]
  | some r =>
    obtain rfl := regAt_eq_some h
    have key : ∀ q, (P.addr r = P.addr q) ↔ r = q := fun q => ⟨P.addr_inj r q, congrArg _⟩
    cases r <;> simp [writeReg, key]

@[simp] theorem axis_get_set_same (v : AxisVals) (a : Axis) (q : Rat) : (v.set a q).get a = q := by cases a <;> rfl

theorem axis_get_set_other (v : AxisVals) {a b : Axis} (q : Rat) (h : b ≠ a) : (v.set a q).get b = v.get b := by
  cases a <;> cases b <;> first | rfl | exact absurd rfl h

end Sys2Proof.Machine
end

