-- ==== Sys2Proof/Laws/Ops.lean ====
section
/-! SUPPORT. What each shared operation can do, said once: the checks in front of a byte (R93, R97), an event of one
instance (R66, R149), and what any instruction at all can touch. -/

namespace Sys2Proof.Machine

variable {s t : State} {f : Sensor → Sensor} {b : Byte}

theorem serialEvent_next {i : Instance} (h : serialEvent i f s = .next t) : i = .sensor ∧ t = s.onSensor f := by
  cases i with
  | sensor => exact ⟨rfl, by simpa [serialEvent] using h.symm⟩
  | flash => simp [serialEvent] at h

@[simp] theorem deliverByte_selected (h : s.sensor.sel = true) : deliverByte b f s = .next (s.onSensor f) := by
  simp [deliverByte, h]

@[simp] theorem deliverByte_unselected (h : s.sensor.sel = false) :
    deliverByte b f s = .fault (.unselectedByte b) := by
  simp [deliverByte, h]

theorem deliverByte_next (h : deliverByte b f s = .next t) : s.sensor.sel = true ∧ t = s.onSensor f := by
  cases hs : s.sensor.sel with
  | true => exact ⟨rfl, by simpa [hs] using h.symm⟩
  | false => simp [hs] at h

@[simp] theorem deliverDataByte_open (hs : s.sensor.sel = true) (hp : s.sensor.phase ≠ .idle) :
    deliverDataByte b f s = .next (s.onSensor f) := by
  simp [deliverDataByte, hs, hp]

@[simp] theorem deliverDataByte_unselected (h : s.sensor.sel = false) :
    deliverDataByte b f s = .fault (.unselectedByte b) := by
  simp [deliverDataByte, h]

@[simp] theorem deliverDataByte_idle (hs : s.sensor.sel = true) (hp : s.sensor.phase = .idle) :
    deliverDataByte b f s = .fault (.idleData b) := by
  simp [deliverDataByte, hs, hp]

theorem deliverDataByte_next (h : deliverDataByte b f s = .next t) :
    s.sensor.sel = true ∧ s.sensor.phase ≠ .idle ∧ t = s.onSensor f := by
  unfold deliverDataByte at h
  split at h
  · cases h
  · next hn =>
    obtain ⟨hs, ht⟩ := deliverByte_next h
    exact ⟨hs, fun hp => hn ⟨hs, hp⟩, ht⟩

/-- What SENSOR does in each of its instructions, as a function of its own state; `none` for an instruction of FLASH. -/
def sensorEffect (P : Params) : Instr → Option (Sensor → Sensor)
  | .spiAddrRd a => some (openTransaction .reading a)
  | .spiAddrWr a => some (openTransaction .writing a)
  | .spiDataRd _ => some (dataRead P)
  | .spiDataWr d => some (dataWrite P d)
  | .flWren _ => none
  | .flExitcm _ => none
  | .flRdid _ => none
  | .flRdsr _ => none
  | .flUnimpl _ _ => none
  | .csAssert .sensor => some assertSelect
  | .csAssert .flash => none
  | .csDeassert .sensor => some deselect
  | .csDeassert .flash => none
  | .finish .sensor => some deselect
  | .finish .flash => none
  | .wcmd _ => none
  | .rdata => none
  | .setacc a v => some (setAccel a v)
  | .seten a e => some (setEnable P a e)
  | .getsens => some (getSensitivity P)
  | .reset .sensor => some (resetSensor P)
  | .reset .flash => none

/-- WCMD in one line: the record, then the opcode's effect (R140). -/
theorem execWcmd_eq (w : Word) (s : State) :
    execWcmd w s = .next (s.onFlash (fun x => opcodeEffect Config.params (opOf w) (recordCommand w x))) := rfl

/-! ### Each instruction over its shared operation -/

section Instructions
variable (s : State)

@[simp] theorem exec_spiAddrRd (a : Addr7) :
    exec (.spiAddrRd a) s = deliverByte (addressByte true a) (openTransaction .reading a) s := rfl
@[simp] theorem exec_spiAddrWr (a : Addr7) :
    exec (.spiAddrWr a) s = deliverByte (addressByte false a) (openTransaction .writing a) s := rfl
@[simp] theorem exec_spiDataRd (d : Byte) :
    exec (.spiDataRd d) s = deliverDataByte d (dataRead Config.params) s := rfl
@[simp] theorem exec_spiDataWr (d : Byte) :
    exec (.spiDataWr d) s = deliverDataByte d (dataWrite Config.params d) s := rfl
@[simp] theorem exec_flWren (arg : BitVec 24) :
    exec (.flWren arg) s = command (commandWord arg Literal.opWren) writeEnable s := rfl
@[simp] theorem exec_flExitcm (arg : BitVec 24) :
    exec (.flExitcm arg) s = command (commandWord arg Literal.opExitcm) exitContinuousMode s := rfl
@[simp] theorem exec_flRdid (arg : BitVec 24) :
    exec (.flRdid arg) s = command (commandWord arg Literal.opRdid) id s := rfl
@[simp] theorem exec_flRdsr (arg : BitVec 24) :
    exec (.flRdsr arg) s = command (commandWord arg Config.params.opRdsr) id s := rfl
@[simp] theorem exec_flUnimpl (arg : BitVec 24) (op : Byte) :
    exec (.flUnimpl arg op) s = command (commandWord arg op) id s := rfl
@[simp] theorem exec_csAssert (i : Instance) : exec (.csAssert i) s = serialEvent i assertSelect s := rfl
@[simp] theorem exec_csDeassert (i : Instance) : exec (.csDeassert i) s = serialEvent i deselect s := rfl
@[simp] theorem exec_finish (i : Instance) : exec (.finish i) s = serialEvent i deselect s := rfl
@[simp] theorem exec_wcmd (w : Word) :
    exec (.wcmd w) s = .next (s.onFlash (fun x => opcodeEffect Config.params (opOf w) (recordCommand w x))) :=
  execWcmd_eq w s
@[simp] theorem exec_rdata : exec .rdata s = .next (s.onFlash (readData Config.params)) := rfl
@[simp] theorem exec_setacc (a : Axis) (v : Rat) : exec (.setacc a v) s = .next (s.onSensor (setAccel a v)) := rfl
@[simp] theorem exec_seten (a : Axis) (e : Bool) :
    exec (.seten a e) s = .next (s.onSensor (setEnable Config.params a e)) := rfl
@[simp] theorem exec_getsens : exec .getsens s = .next (s.onSensor (getSensitivity Config.params)) := rfl
@[simp] theorem exec_reset_sensor : exec (.reset .sensor) s = .next (s.onSensor (resetSensor Config.params)) := rfl
@[simp] theorem exec_reset_flash : exec (.reset .flash) s = .next (s.onFlash resetFlash) := rfl

end Instructions

/-- Everything an instruction can do when it answers a next state (R66): it acts on SENSOR alone, by its effect there, or
on FLASH alone. -/
theorem exec_next_cases {i : Instr} (h : exec i s = .next t) :
    (∃ f, sensorEffect Config.params i = some f ∧ t = s.onSensor f) ∨
    (sensorEffect Config.params i = none ∧ ∃ g, t = s.onFlash g) := by
  have next_inj : ∀ {x y : State}, (Host.Outcome.next x : Host.Outcome State Fault Refusal) = .next y → y = x :=
    fun e => by injection e with e; exact e.symm
  cases i with
  | spiAddrRd a => exact .inl ⟨_, rfl, (deliverByte_next h).2⟩
  | spiAddrWr a => exact .inl ⟨_, rfl, (deliverByte_next h).2⟩
  | spiDataRd d => exact .inl ⟨_, rfl, (deliverDataByte_next h).2.2⟩
  | spiDataWr d => exact .inl ⟨_, rfl, (deliverDataByte_next h).2.2⟩
  | flWren arg => exact .inr ⟨rfl, _, next_inj h⟩
  | flExitcm arg => exact .inr ⟨rfl, _, next_inj h⟩
  | flRdid arg => exact .inr ⟨rfl, _, next_inj h⟩
  | flRdsr arg => exact .inr ⟨rfl, _, next_inj h⟩
  | flUnimpl arg op => exact .inr ⟨rfl, _, next_inj h⟩
  | csAssert k => obtain ⟨rfl, ht⟩ := serialEvent_next h; exact .inl ⟨_, rfl, ht⟩
  | csDeassert k => obtain ⟨rfl, ht⟩ := serialEvent_next h; exact .inl ⟨_, rfl, ht⟩
  | finish k => obtain ⟨rfl, ht⟩ := serialEvent_next h; exact .inl ⟨_, rfl, ht⟩
  | wcmd w => exact .inr ⟨rfl, _, next_inj ((exec_wcmd s w).symm.trans h)⟩
  | rdata => exact .inr ⟨rfl, _, next_inj h⟩
  | setacc a v => exact .inl ⟨_, rfl, next_inj h⟩
  | seten a e => exact .inl ⟨_, rfl, next_inj h⟩
  | getsens => exact .inl ⟨_, rfl, next_inj h⟩
  | reset k =>
    cases k with
    | sensor => exact .inl ⟨_, rfl, next_inj h⟩
    | flash => exact .inr ⟨rfl, _, next_inj h⟩

/-- No instruction touches the events still to come or the run's mark. -/
theorem exec_next_rest {i : Instr} (h : exec i s = .next t) : t.pending = s.pending ∧ t.refused = s.refused := by
  obtain ⟨f, -, rfl⟩ | ⟨-, g, rfl⟩ := exec_next_cases h <;> exact ⟨rfl, rfl⟩

end Sys2Proof.Machine
end

