-- ==== Sys2Proof/Laws/Flash.lean ====
section
/-! SUPPORT. What each FLASH operation does (R140 to R147, R180), and that it keeps FLASH's invariant (R34, R148). -/

namespace Sys2Proof.Machine

variable {P : Params} {f : Flash}

theorem recordCommand_inv (w : Word) (h : f.Inv) : (recordCommand w f).Inv := h

theorem writeEnable_inv (h : f.Inv) : (writeEnable f).Inv := by
  rcases h with h | h <;> exact .inr (by rw [writeEnable, h]; rfl)

theorem exitContinuousMode_inv : (exitContinuousMode f).Inv := .inl rfl

theorem opcodeEffect_inv (op : Byte) (h : f.Inv) : (opcodeEffect P op f).Inv := by
  unfold opcodeEffect
  repeat' split
  exacts [writeEnable_inv h, exitContinuousMode_inv, h, h, h]

/-- A read-data access answers and writes no register (R57, R146). -/
theorem readData_cases (P : Params) (f : Flash) :
    ∃ w n, readData P f = { f with response := some (.word w), draws := n } := by
  unfold readData
  repeat' split
  exacts [⟨_, _, rfl⟩, ⟨_, _, rfl⟩, ⟨_, _, rfl⟩]

theorem readData_inv (h : f.Inv) : (readData P f).Inv := by
  obtain ⟨w, n, e⟩ := readData_cases P f
  rw [e]; exact h

theorem resetFlash_inv : (resetFlash f).Inv := .inl rfl

end Sys2Proof.Machine
end

