-- ==== Sys2Proof/Laws/PerInstr.lean ====
section
/-! SUPPORT. Laws of every instruction as syntax, one lemma per constructor. EncodingMatchesTable: a well-formed
instruction's encoding has the form and the fixed bits of its row of spec/opcode_table.json (columns `match` and
`mask`), whatever the parameters. -/

namespace Sys2Proof.Laws.EncodingMatchesTable

/-- The instruction's encoding matches its row's pattern. -/
def Statement (i : Instr) : Prop := ∀ P : Params, i.wf P = true → (i.pattern P).Matches (encode P i)

/-- The mask 0x000000FF keeps a command word's opcode. -/
theorem commandWord_mask (arg : BitVec 24) (op : Byte) : commandWord arg op &&& 0x000000FF#32 = op.setWidth 32 := by
  have hm : ∀ i : Fin 32, (0x000000FF#32).getLsbD i = decide (i.val < 8) := by decide
  apply BitVec.eq_of_getLsbD_eq
  intro i hi
  have h8 := hm ⟨i, hi⟩
  simp only at h8
  rw [BitVec.getLsbD_and, h8, BitVec.getLsbD_setWidth, commandWord, BitVec.getLsbD_append]
  by_cases h : i < 8 <;> simp [h, hi]
  exact BitVec.getLsbD_of_ge op i (by omega)

/-- The mask 0x80 keeps an address byte's RW bit (R71). -/
theorem addressByte_mask (rw : Bool) (a : Addr7) : addressByte rw a &&& 0x80#8 = if rw then 0x80#8 else 0x00#8 := by
  revert rw a; decide

theorem spiAddrRd (a : Addr7) : Statement (.spiAddrRd a) := fun _ _ => addressByte_mask true a

theorem spiAddrWr (a : Addr7) : Statement (.spiAddrWr a) := fun _ _ => addressByte_mask false a

theorem spiDataRd (d : Byte) : Statement (.spiDataRd d) := fun _ _ => by simp [Instr.pattern, encode, Pattern.Matches]

theorem spiDataWr (d : Byte) : Statement (.spiDataWr d) := fun _ _ => by simp [Instr.pattern, encode, Pattern.Matches]

theorem flWren (arg : BitVec 24) : Statement (.flWren arg) := fun _ _ => commandWord_mask arg _

theorem flExitcm (arg : BitVec 24) : Statement (.flExitcm arg) := fun _ _ => commandWord_mask arg _

theorem flRdid (arg : BitVec 24) : Statement (.flRdid arg) := fun _ _ => commandWord_mask arg _

theorem flRdsr (arg : BitVec 24) : Statement (.flRdsr arg) := fun _ _ => commandWord_mask arg _

theorem flUnimpl (arg : BitVec 24) (op : Byte) : Statement (.flUnimpl arg op) := fun _ _ => by
  simp [Instr.pattern, encode, Pattern.Matches]

theorem csAssert (i : Instance) : Statement (.csAssert i) := fun _ _ => by cases i <;> trivial

theorem csDeassert (i : Instance) : Statement (.csDeassert i) := fun _ _ => by cases i <;> trivial

theorem finish (i : Instance) : Statement (.finish i) := fun _ _ => by cases i <;> trivial

theorem wcmd (w : Word) : Statement (.wcmd w) := fun _ _ => trivial

theorem rdata : Statement .rdata := fun _ _ => trivial

theorem setacc (a : Axis) (v : Rat) : Statement (.setacc a v) := fun _ _ => trivial

theorem seten (a : Axis) (e : Bool) : Statement (.seten a e) := fun _ _ => trivial

theorem getsens : Statement .getsens := fun _ _ => trivial

theorem reset (i : Instance) : Statement (.reset i) := fun _ _ => by cases i <;> trivial

end Sys2Proof.Laws.EncodingMatchesTable
end

