-- ==== Sys2Proof/Laws/Sensor.lean ====
section
/-! SUPPORT. What each SENSOR operation does (R90 to R95, R110 to R121, R180), as one equation, and that it keeps
SENSOR's invariant. -/

namespace Sys2Proof.Machine

variable (P : Params) (s : Sensor)

theorem assertSelect_eq : assertSelect s = { s with sel := true, response := none } := by
  cases h : s.sel <;> simp [assertSelect, h, Sensor.silent]

@[simp] theorem assertSelect_sel : (assertSelect s).sel = true := by rw [assertSelect_eq]
@[simp] theorem assertSelect_phase : (assertSelect s).phase = s.phase := by rw [assertSelect_eq]
@[simp] theorem assertSelect_faulted : (assertSelect s).faulted = s.faulted := by rw [assertSelect_eq]
@[simp] theorem assertSelect_response : (assertSelect s).response = none := by rw [assertSelect_eq]

theorem dataRead_eq : dataRead P s = { s with response := some (.byte (sregRead P s.target s)) } := rfl

theorem dataWrite_eq (d : Byte) :
    dataWrite P d s =
      { s with
        ctrl4 := if s.target = P.addr .ctrl4 then d else s.ctrl4
        ctrl5 := if s.target = P.addr .ctrl5 then d else s.ctrl5
        status := recomputed P (if s.target = P.addr .ctrl4 then d else s.ctrl4) s.status
        response := some (.byte (Config.freeByte s.draws))
        draws := s.draws + 1 } := by
  simp [dataWrite, sregWrite_eq, recompute, Sensor.answerDrawn]

theorem setAccel_eq (a : Axis) (v : Rat) :
    setAccel a v s =
      { s with
        axis := if Literal.accelMin ≤ v ∧ v ≤ Literal.accelMax then s.axis.set a v else s.axis
        response := none } := by
  unfold setAccel Sensor.silent; split <;> rfl

theorem setEnable_eq (a : Axis) (e : Bool) :
    setEnable P a e s =
      { s with
        ctrl4 := setBit s.ctrl4 (P.ctrl4.enableBit a) e
        status := recomputed P (setBit s.ctrl4 (P.ctrl4.enableBit a) e) s.status
        response := none } := rfl

/-! ### The invariant -/

variable {P s}

theorem assertSelect_inv (h : s.Inv P) : (assertSelect s).Inv P := by
  rw [assertSelect_eq]
  exact ⟨by simp, h.whoami_constant, h.other_status_bits, h.axis_in_range, h.flags_fresh⟩

theorem deselect_inv (h : s.Inv P) : (deselect s).Inv P :=
  ⟨fun _ => rfl, h.whoami_constant, h.other_status_bits, h.axis_in_range, h.flags_fresh⟩

theorem openTransaction_inv (ph : Phase) (a : Addr7) (hs : s.sel = true) (h : s.Inv P) :
    (openTransaction ph a s).Inv P :=
  ⟨by simp [hs], h.whoami_constant, h.other_status_bits, h.axis_in_range, h.flags_fresh⟩

theorem dataRead_inv (h : s.Inv P) : (dataRead P s).Inv P :=
  ⟨h.idle_of_deselected, h.whoami_constant, h.other_status_bits, h.axis_in_range, h.flags_fresh⟩

/-- A recomputation leaves the flags fresh and the other STATUS bits alone (R33). -/
theorem dataWrite_inv (d : Byte) (h : s.Inv P) : (dataWrite P d s).Inv P := by
  rw [dataWrite_eq]
  exact ⟨h.idle_of_deselected, h.whoami_constant,
    fun i hi => (recomputed_other _ _ hi).trans (h.other_status_bits i hi), h.axis_in_range,
    .inl (flagsOf_recomputed _ _ _)⟩

theorem setAccel_inv (a : Axis) (v : Rat) (h : s.Inv P) : (setAccel a v s).Inv P := by
  rw [setAccel_eq]
  refine ⟨h.idle_of_deselected, h.whoami_constant, h.other_status_bits, fun b => ?_, h.flags_fresh⟩
  dsimp only
  split
  · next hv =>
    rcases eq_or_ne b a with rfl | hb
    · simpa using hv
    · simpa only [axis_get_set_other _ _ hb] using h.axis_in_range b
  · exact h.axis_in_range b

theorem setEnable_inv (a : Axis) (e : Bool) (h : s.Inv P) : (setEnable P a e s).Inv P := by
  rw [setEnable_eq]
  exact ⟨h.idle_of_deselected, h.whoami_constant,
    fun i hi => (recomputed_other _ _ hi).trans (h.other_status_bits i hi), h.axis_in_range,
    .inl (flagsOf_recomputed _ _ _)⟩

theorem getSensitivity_inv (h : s.Inv P) : (getSensitivity P s).Inv P :=
  ⟨h.idle_of_deselected, h.whoami_constant, h.other_status_bits, h.axis_in_range, h.flags_fresh⟩

/-- STATUS at reset: 0x08 itself, or 0x08 with fresh flags (R27). -/
theorem statusAtReset_cases (P : Params) :
    (P.resetPolicy = .literal ∧ statusAtReset P = Literal.statusReset) ∨
    (P.resetPolicy = .recomputed ∧ statusAtReset P = recomputed P Literal.ctrl4Reset Literal.statusReset) := by
  unfold statusAtReset
  cases P.resetPolicy
  · exact .inl ⟨rfl, rfl⟩
  · exact .inr ⟨rfl, rfl⟩

theorem resetSensor_inv : (resetSensor P s).Inv P := by
  refine ⟨fun _ => rfl, rfl, fun i hi => ?_, fun a => ?_, ?_⟩
  · obtain ⟨-, h⟩ | ⟨-, h⟩ := statusAtReset_cases P
    · exact congrArg (·.getLsbD i) h
    · exact (congrArg (·.getLsbD i) h).trans (recomputed_other _ _ hi)
  · cases a <;> exact drawAccel_mem _
  · obtain ⟨hp, h⟩ | ⟨-, h⟩ := statusAtReset_cases P
    · exact .inr ⟨hp, rfl, h⟩
    · exact .inl ((congrArg (flagsOf P) h).trans (flagsOf_recomputed _ _ _))

end Sys2Proof.Machine
end

