-- ==== Sys2Proof/Laws/Step.lean ====
section
/-! SUPPORT. What a step can do (R5, R10, R165), said once, and what the state after a step holds (R36, R162, R166). -/

namespace Sys2Proof.Machine

variable {s t : State} {e : HostEvent} {rest : List HostEvent}

theorem step_no_event (h : s.pending = []) : step s = .next s := by
  simp [step, fetch, h]

theorem step_dead {r : Fault} (hp : s.pending = e :: rest) (hf : s.faultOf e.target = some r) :
    step s = .fault r := by
  simp [step, fetch, hp, hf]

theorem step_rejected {r : Reject} (hp : s.pending = e :: rest) (hf : s.faultOf e.target = none)
    (hd : decodeEvent Config.params s.sensor.phase e = .reject r) : step s = .refused (refusalOf r) := by
  simp [step, fetch, hp, hf, hd]

theorem step_run {i : Instr} (hp : s.pending = e :: rest) (hf : s.faultOf e.target = none)
    (hd : decodeEvent Config.params s.sensor.phase e = .instr i) : step s = exec i { s with pending := rest } := by
  simp [step, fetch, hp, hf, hd]

/-- Everything a step can be that answers a next state: nothing was pending, or the next event's instruction ran. -/
theorem step_next_cases (h : step s = .next t) :
    (s.pending = [] ∧ t = s) ∨
    (∃ e rest i, s.pending = e :: rest ∧ s.faultOf e.target = none ∧
      decodeEvent Config.params s.sensor.phase e = .instr i ∧ exec i { s with pending := rest } = .next t) := by
  cases hp : s.pending with
  | nil =>
    rw [step_no_event hp] at h
    injection h with h
    exact .inl ⟨rfl, h.symm⟩
  | cons e rest =>
    right
    cases hf : s.faultOf e.target with
    | some r => rw [step_dead hp hf] at h; cases h
    | none =>
      cases hd : decodeEvent Config.params s.sensor.phase e with
      | reject r => rw [step_rejected hp hf hd] at h; cases h
      | instr i => rw [step_run hp hf hd] at h; exact ⟨e, rest, i, rfl, hf, hd, h⟩

theorem afterStep_nil (h : s.pending = []) : afterStep s = s := by
  simp [afterStep, h]

theorem afterStep_next (hp : s.pending = e :: rest) (h : step s = .next t) : afterStep s = t := by
  simp [afterStep, hp, h]

theorem afterStep_fault {r : Fault} (hp : s.pending = e :: rest) (h : step s = .fault r) :
    afterStep s = takeFault e.target r { s with pending := rest } := by
  simp [afterStep, hp, h]

theorem afterStep_refused {r : Refusal} (hp : s.pending = e :: rest) (h : step s = .refused r) :
    afterStep s = takeRefusal { s with pending := rest } := by
  simp [afterStep, hp, h]

/-- A faulted instance stays as it is, its event dropped (R162). -/
theorem afterStep_dead {r : Fault} (hp : s.pending = e :: rest) (hf : s.faultOf e.target = some r) :
    afterStep s = { s with pending := rest } := by
  rw [afterStep_fault hp (step_dead hp hf)]
  obtain ⟨x, y, _, _⟩ := s
  cases ht : e.target <;> rw [ht] at hf <;> simp_all [takeFault, State.faultOf] <;> rw [← hf]

/-- Every step consumes exactly the next event (R37, R60). -/
theorem afterStep_pending (hp : s.pending = e :: rest) : (afterStep s).pending = rest := by
  cases h : step s with
  | next t =>
    rw [afterStep_next hp h]
    obtain ⟨h0, -⟩ | ⟨_, _, i, hp', -, -, hx⟩ := step_next_cases h
    · simp [hp] at h0
    · rw [hp] at hp'; cases hp'; exact (exec_next_rest hx).1
  | fault r => simp [afterStep_fault hp h]
  | refused r => simp [afterStep_refused hp h]

/-- A run splits at its first event. -/
theorem observe_succ (n : Nat) (s : State) :
    observe (n + 1) s =
      ⟨stepResponse s :: (observe n (afterStep s)).responses, (observe n (afterStep s)).final⟩ := rfl

/-- What holds before a run and is kept by every step holds at its end: the induction over runs, made once. -/
theorem observe_invariant {I : State → Prop} (hstep : ∀ s, I s → I (afterStep s)) :
    ∀ (n : Nat) (s : State), I s → I (observe n s).final
  | 0, _, h => h
  | n + 1, s, h => observe_invariant hstep n (afterStep s) (hstep s h)

/-- Setting `pending` to what it is changes nothing. -/
theorem with_pending_self {es : List HostEvent} (h : s.pending = es) : ({ s with pending := es } : State) = s := by
  cases s; cases h; rfl

theorem runEvents_nil (s : State) : runEvents [] s = ⟨[], { s with pending := [] }⟩ := rfl

/-- A run whose first event runs an instruction goes on from the state that instruction leaves. -/
theorem runEvents_cons {i : Instr} {es : List HostEvent} (hf : s.faultOf e.target = none)
    (hd : decodeEvent Config.params s.sensor.phase e = .instr i) (hx : exec i { s with pending := es } = .next t) :
    runEvents (e :: es) s = ⟨t.responseOf e.target :: (runEvents es t).responses, (runEvents es t).final⟩ := by
  have hst : step { s with pending := e :: es } = .next t :=
    (step_run (s := { s with pending := e :: es }) rfl hf hd).trans hx
  rw [runEvents, List.length_cons, observe_succ, afterStep_next rfl hst, runEvents,
    with_pending_self (exec_next_rest hx).1]
  simp [stepResponse, hst]

/-- The same for an event that acts on SENSOR by `f`. -/
theorem runEvents_sensor {e : SensorEvent} {f : Sensor → Sensor} {es : List HostEvent} (hf : s.sensor.faulted = none)
    (hx : exec (decodeSensorEvent s.sensor.phase e) { s with pending := es } =
      .next (State.onSensor f { s with pending := es })) :
    runEvents (.sensor e :: es) s =
      ⟨(f s.sensor).response :: (runEvents es (s.onSensor f)).responses, (runEvents es (s.onSensor f)).final⟩ :=
  runEvents_cons (e := .sensor e) hf rfl hx

/-- The same for an event that acts on FLASH by `g`. -/
theorem runEvents_flash {e : FlashEvent} {g : Flash → Flash} {i : Instr} {es : List HostEvent}
    (hf : s.flash.faulted = none) (hd : decodeFlashEvent Config.params e = .instr i)
    (hx : exec i { s with pending := es } = .next (State.onFlash g { s with pending := es })) :
    runEvents (.flash e :: es) s =
      ⟨(g s.flash).response :: (runEvents es (s.onFlash g)).responses, (runEvents es (s.onFlash g)).final⟩ :=
  runEvents_cons (e := .flash e) hf hd hx

/-- A run whose first event steps to some state, whatever the outcome, goes on from there. -/
theorem runEvents_final_cons (e : HostEvent) (es : List HostEvent) (s : State) :
    (runEvents (e :: es) s).final = (runEvents es (afterStep { s with pending := e :: es })).final := by
  rw [runEvents, List.length_cons, observe_succ, runEvents, with_pending_self (afterStep_pending rfl)]

end Sys2Proof.Machine
end

