-- ==== Sys2Proof/Tests/Slice0.lean ====
section
/-! SUPPORT. The model's own tests: ill-formed terms the check refuses, one word per constructor written out from the
spec's encoding, the vectors of spec/95_test_vectors.md (its ids stand in the comments), and a witness for the
hypotheses of each obligation. -/

namespace Sys2Proof.Tests

open Sys2Proof Sys2Proof.Machine

/-- P_ILL with each P_STATUS_RESET_POLICY. -/
abbrev ill : Params := Params.illustrative .literal
abbrev illRec : Params := Params.illustrative .recomputed

/-! ### WellFormed: R74, R76 -/

theorem test_wf_refuses_unimpl_wren : Instr.wf ill (.flUnimpl 0x000000#24 0x06#8) = false := by decide
theorem test_wf_refuses_unimpl_exitcm : Instr.wf ill (.flUnimpl 0x000000#24 0xFF#8) = false := by decide
theorem test_wf_refuses_unimpl_rdid : Instr.wf ill (.flUnimpl 0x000000#24 0x9F#8) = false := by decide
theorem test_wf_refuses_unimpl_rdsr : Instr.wf ill (.flUnimpl 0x000000#24 0x05#8) = false := by decide
theorem test_wf_accepts_unimpl_0x04 : Instr.wf ill (.flUnimpl 0x000000#24 0x04#8) = true := by decide

/-! ### Decoding: words written out from 30_encoding.md R71 to R74 and R80 -/

-- RW = 1, A = 0001111 (V-A05); RW = 0, A = 0100000 (V-A06).
theorem test_decode_spiAddrRd : decodeByte .idle 0b10001111#8 = .spiAddrRd 0x0F#7 := by decide
theorem test_decode_spiAddrWr : decodeByte .idle 0b00100000#8 = .spiAddrWr 0x20#7 := by decide
-- The same byte is a data byte in the other phases (R72).
theorem test_decode_spiDataRd : decodeByte .reading 0b10001111#8 = .spiDataRd 0x8F#8 := by decide
theorem test_decode_spiDataWr : decodeByte .writing 0b01100111#8 = .spiDataWr 0x67#8 := by decide
-- ARG in bits 31:8, OP in bits 7:0 (R73); V-L10, L1-6, V-L12, V-L11.
theorem test_decode_flWren :
    decodeWord ill 0b00010010001101000101011000000110#32 = .flWren 0x123456#24 := by decide
theorem test_decode_flExitcm :
    decodeWord ill 0b00000000000000000000000011111111#32 = .flExitcm 0x000000#24 := by decide
theorem test_decode_flRdid :
    decodeWord ill 0b11011110101011011011111010011111#32 = .flRdid 0xDEADBE#24 := by decide
theorem test_decode_flRdsr :
    decodeWord ill 0b00000000000000000000000100000101#32 = .flRdsr 0x000001#24 := by decide
theorem test_decode_flUnimpl :
    decodeWord ill 0b00000000000000000000011000000000#32 = .flUnimpl 0x000006#24 0x00#8 := by decide
theorem test_decode_csAssert : decodeEvent ill .idle (.sensor (.cs true)) = .instr (.csAssert .sensor) := by decide
theorem test_decode_csDeassert : decodeEvent ill .idle (.sensor (.cs false)) = .instr (.csDeassert .sensor) := by decide
theorem test_decode_finish : decodeEvent ill .reading (.sensor .finish) = .instr (.finish .sensor) := by decide
theorem test_decode_wcmd : decodeEvent ill .idle (.flash (.wcmd 0x06#32)) = .instr (.wcmd 0x06#32) := by decide
theorem test_decode_rdata : decodeEvent ill .idle (.flash .rdata) = .instr .rdata := by decide
theorem test_decode_setacc :
    decodeEvent ill .idle (.sensor (.setacc .y (-1))) = .instr (.setacc .y (-1)) := by decide
theorem test_decode_seten : decodeEvent ill .idle (.sensor (.seten .z true)) = .instr (.seten .z true) := by decide
theorem test_decode_getsens : decodeEvent ill .idle (.sensor .getsens) = .instr .getsens := by decide
theorem test_decode_reset : decodeEvent ill .writing (.flash .reset) = .instr (.reset .flash) := by decide
-- R53, V-X05 to V-X08 (P_FLASH_CMD_OFFSET 0 and P_FLASH_RDATA_OFFSET 4 stand in for the open offsets), V-X03.
theorem test_decode_register_bus :
    decodeEvent ill .idle (.flash (.memWrite 0 (.b32 0x06#32))) = .instr (.wcmd 0x06#32) ∧
    decodeEvent ill .idle (.flash (.memRead 4 .w32)) = .instr .rdata ∧
    decodeEvent ill .idle (.flash (.memWrite 0 (.b8 0x06#8))) = .reject .flashAccess ∧
    decodeEvent ill .idle (.flash (.memRead 0 .w32)) = .reject .flashAccess ∧
    decodeEvent ill .idle (.flash (.memWrite 4 (.b32 0x06#32))) = .reject .flashAccess ∧
    decodeEvent ill .idle (.flash (.memWrite 8 (.b32 0x06#32))) = .reject .flashAccess ∧
    decodeEvent ill .idle (.flash (.xfer 0x9F#8)) = .reject .flashSerial := by decide

-- The host's numbering (log 12), on the columns `match` of the opcode table.
theorem test_tableWord_bytes :
    decodeTableWord 8 0x80 = some (.spiAddrRd 0x00#7) ∧ decodeTableWord 8 0x00 = some (.spiAddrWr 0x00#7) := by decide
theorem test_tableWord_words :
    decodeTableWord 32 0x00000006 = some (.flWren 0#24) ∧ decodeTableWord 32 0x000000FF = some (.flExitcm 0#24) ∧
    decodeTableWord 32 0x0000009F = some (.flRdid 0#24) ∧ decodeTableWord 16 0x06 = none := by decide

/-! ### What is read off an outcome -/

/-- A field of the next state, if there is one. -/
def field? {α : Type} (f : State → α) : Host.Outcome State Fault Refusal → Option α
  | .next t => some (f t)
  | .fault _ => none
  | .refused _ => none

def fault? : Host.Outcome State Fault Refusal → Option Fault
  | .next _ => none
  | .fault r => some r
  | .refused _ => none

def refusal? : Host.Outcome State Fault Refusal → Option Refusal
  | .next _ => none
  | .fault _ => none
  | .refused r => some r

/-- The framer's observable part. -/
def framer (s : State) : Bool × Phase × Addr7 := (s.sensor.sel, s.sensor.phase, s.sensor.target)

-- The first step after reset runs the placed word (log 12).
theorem test_step_runs_table_byte :
    field? framer (step (State.reset.withFetchWord 8 0x80)) = some (true, .reading, 0x00#7) ∧
    field? framer (step (State.reset.withFetchWord 8 0x00)) = some (true, .writing, 0x00#7) := by decide
theorem test_step_runs_table_word :
    field? (·.flash.fstatus) (step (State.reset.withFetchWord 32 0x00000006)) = some 0x02#8 ∧
    field? (·.flash.fstatus) (step (State.reset.withFetchWord 32 0x000000FF)) = some 0x00#8 ∧
    field? (·.flash.lastCmd) (step (State.reset.withFetchWord 32 0x0000009F)) = some 0x9F#32 := by decide

/-! ### States -/

/-- SENSOR with no free value in it: selected, in the given phase and target. -/
def sensorIn (phase : Phase) (target : Addr7) : Sensor where
  sel := true
  phase := phase
  target := target
  whoami := 0x3F#8
  ctrl4 := 0x43#8
  ctrl5 := 0x00#8
  status := 0x08#8
  axis := ⟨1, 2, 0⟩
  faulted := none
  response := none
  draws := 4

/-- The machine with that SENSOR and FLASH as after reset, the event `es` to come. -/
def machine (phase : Phase) (target : Addr7) (es : List HostEvent) : State where
  sensor := sensorIn phase target
  flash := State.reset.flash
  refused := false
  pending := es

/-- That machine with the chip-select deasserted. -/
def deselected (es : List HostEvent) : State :=
  { machine .idle 0x00#7 es with sensor := { sensorIn .idle 0x00#7 with sel := false } }

/-- That machine with FLASH's registers as given. -/
def flashIn (fstatus : Byte) (lastCmd : Word) (es : List HostEvent) : State :=
  { machine .idle 0x00#7 es with flash := { State.reset.flash with fstatus := fstatus, lastCmd := lastCmd } }

/-! ### Framer: 95_test_vectors.md 2.1, 2.2 -/

-- V-F01; R91.
theorem test_csAssert_selects :
    field? framer (exec (.csAssert .sensor) (deselected [])) = some (true, .idle, 0x00#7) := by decide
theorem test_csDeassert_returns_to_idle :
    field? (fun t => (t.sensor.sel, t.sensor.phase, t.sensor.ctrl4)) (exec (.csDeassert .sensor) (machine .writing 0x20#7 [])) =
      some (false, .idle, 0x43#8) := by decide
-- V-F06.
theorem test_finish_returns_to_idle :
    field? (fun t => (t.sensor.sel, t.sensor.phase)) (exec (.finish .sensor) (machine .reading 0x20#7 [])) =
      some (false, .idle) := by decide
-- V-X04.
theorem test_csAssert_flash_refused :
    refusal? (exec (.csAssert .flash) (deselected [])) = some .flashSerial := by decide
-- V-A05, V-A06, and the registers untouched (V-F05).
theorem test_spiAddrRd :
    field? framer (exec (.spiAddrRd 0x0F#7) (machine .idle 0x00#7 [])) = some (true, .reading, 0x0F#7) := by decide
theorem test_spiAddrWr :
    field? (fun t => (framer t, t.sensor.ctrl4, t.sensor.status)) (exec (.spiAddrWr 0x20#7) (machine .idle 0x00#7 [])) =
      some ((true, .writing, 0x20#7), 0x43#8, 0x08#8) := by decide
-- V-X01, V-F02.
theorem test_unselected_byte_faults :
    fault? (step (deselected [.sensor (.xfer 0x8F#8)])) = some (.unselectedByte 0x8F#8) := by decide

/-! ### Register file: 2.3, 2.4, 2.5, under P_ILL -/

-- V-S03, V-S04, V-S05, V-S09, V-S06.
theorem test_dataRead_registers :
    (dataRead ill (sensorIn .reading 0x0F#7)).response = some (.byte 0x3F#8) ∧
    (dataRead ill (sensorIn .reading 0x20#7)).response = some (.byte 0x43#8) ∧
    (dataRead ill (sensorIn .reading 0x24#7)).response = some (.byte 0x00#8) ∧
    (dataRead ill (sensorIn .reading 0x27#7)).response = some (.byte 0x08#8) ∧
    (dataRead ill (sensorIn .reading 0x7F#7)).response = some (.byte 0x00#8) := by decide
-- V-E01 (X holds 1.0 g), both halves.
theorem test_dataRead_out :
    (dataRead ill (sensorIn .reading 0x28#7)).response = some (.byte 0xF4#8) ∧
    (dataRead ill (sensorIn .reading 0x29#7)).response = some (.byte 0x01#8) := by decide +kernel
-- V-S10, V-S11, V-S12, V-S14, V-S17, V-S18.
theorem test_dataWrite_control4_recomputes :
    (dataWrite ill 0x67#8 (sensorIn .writing 0x20#7)).status = 0x08#8 ∧
    (dataWrite ill 0x07#8 (sensorIn .writing 0x20#7)).status = 0x00#8 ∧
    (dataWrite ill 0x45#8 (sensorIn .writing 0x20#7)).status = 0x05#8 ∧
    (dataWrite ill 0x43#8 (sensorIn .writing 0x20#7)).status = 0x03#8 ∧
    (dataWrite ill 0x16#8 (sensorIn .writing 0x20#7)).status = 0x06#8 ∧
    (dataWrite ill 0xFF#8 (sensorIn .writing 0x20#7)).ctrl4 = 0xFF#8 := by decide
-- V-S13, V-S21 (dropped, the recomputation runs), V-S25.
theorem test_dataWrite_dropped_and_control5 :
    (dataWrite ill 0x12#8 (sensorIn .writing 0x0F#7)).whoami = 0x3F#8 ∧
    (dataWrite ill 0x12#8 (sensorIn .writing 0x0F#7)).status = 0x03#8 ∧
    (dataWrite ill 0xFF#8 (sensorIn .writing 0x27#7)).status = 0x03#8 ∧
    (dataWrite ill 0xC7#8 (sensorIn .writing 0x24#7)).ctrl5 = 0xC7#8 := by decide
-- V-E02, V-E04, V-E05.
theorem test_encode_whole :
    illustrativeEncode (-1) 2 = 0xFE0C#16 ∧ illustrativeEncode 19 2 = 0x251C#16 ∧
    illustrativeEncode (-19) 2 = 0xDAE4#16 := by decide +kernel
-- V-E06, V-E07, V-E08.
theorem test_encode_truncates :
    illustrativeEncode (mkRat 1 1000) 2 = 0x0000#16 ∧ illustrativeEncode (mkRat (-3) 1000) 2 = 0xFFFF#16 ∧
    illustrativeEncode 1 4 = 0x00FA#16 := by decide +kernel
-- V-S01, V-S02.
theorem test_status_at_reset : statusAtReset ill = 0x08#8 ∧ statusAtReset illRec = 0x03#8 := by decide

/-! ### Stimulus: 2.6 -/

-- V-T01, V-T02; V-T03, V-T04, V-T05.
theorem test_setacc_accepts_bounds :
    field? (·.sensor.axis.x) (exec (.setacc .x 19) (deselected [])) = some 19 ∧
    field? (·.sensor.axis.x) (exec (.setacc .x (-19)) (deselected [])) = some (-19) := by decide +kernel
theorem test_setacc_rejects_out_of_range :
    field? (·.sensor.axis.x) (exec (.setacc .x (mkRat 19000001 1000000)) (deselected [])) = some 1 ∧
    field? (·.sensor.axis.x) (exec (.setacc .x 25) (deselected [])) = some 1 ∧
    field? (·.sensor.axis.y) (exec (.setacc .y (-25)) (deselected [])) = some 2 := by decide +kernel
-- V-T06, V-T07; V-T08.
theorem test_seten :
    (setEnable ill .z true (sensorIn .idle 0#7)).ctrl4 = 0x47#8 ∧
    (setEnable ill .z true (sensorIn .idle 0#7)).status = 0x08#8 ∧
    (setEnable ill .x false (sensorIn .idle 0#7)).ctrl4 = 0x42#8 ∧
    (setEnable ill .x false (sensorIn .idle 0#7)).status = 0x02#8 := by decide
theorem test_seten_to_same_value_recomputes :
    (setEnable ill .x true (sensorIn .idle 0#7)).ctrl4 = 0x43#8 ∧
    (setEnable ill .x true (sensorIn .idle 0#7)).status = 0x03#8 := by decide
-- V-T09, V-S26.
theorem test_getsens :
    (getSensitivity ill (sensorIn .idle 0#7)).response = some (.rational 2) ∧
    (getSensitivity ill { sensorIn .idle 0#7 with ctrl5 := 0x08#8 }).response = some (.rational 4) := by decide +kernel

/-! ### FLASH: 2.7 -/

def flashRegs (s : State) : Byte × Word := (s.flash.fstatus, s.flash.lastCmd)

-- V-L02, V-L03.
theorem test_flWren :
    field? flashRegs (exec (.flWren 0#24) (flashIn 0x00#8 0#32 [])) = some (0x02#8, 0x00000006#32) ∧
    field? flashRegs (exec (.flWren 0#24) (flashIn 0x02#8 0#32 [])) = some (0x02#8, 0x00000006#32) := by decide
-- V-L04.
theorem test_flExitcm :
    field? flashRegs (exec (.flExitcm 0#24) (flashIn 0x02#8 0#32 [])) = some (0x00#8, 0x000000FF#32) := by decide
-- V-L14 (the write).
theorem test_flRdid :
    field? flashRegs (exec (.flRdid 0#24) (flashIn 0x02#8 0#32 [])) = some (0x02#8, 0x0000009F#32) := by decide
-- R144: the status is unchanged at the write.
theorem test_flRdsr : field? (·.flash.fstatus) (exec (.flRdsr 1#24) (flashIn 0x02#8 0#32 [])) = some 0x02#8 := by decide
-- V-L13 (the write).
theorem test_flUnimpl :
    field? flashRegs (exec (.flUnimpl 0#24 0x04#8) (flashIn 0x02#8 0#32 [])) = some (0x02#8, 0x00000004#32) := by decide
-- V-L10; L1-6.
theorem test_wcmd :
    field? flashRegs (exec (.wcmd 0x12345606#32) (flashIn 0x00#8 0#32 [])) = some (0x02#8, 0x12345606#32) ∧
    field? flashRegs (exec (.wcmd 0xDEADBE9F#32) (flashIn 0x02#8 0#32 [])) = some (0x02#8, 0xDEADBE9F#32) := by decide
-- V-L06, V-L14; V-L08 under P_ILL.
theorem test_rdata_id :
    field? (·.flash.response) (exec .rdata (flashIn 0x02#8 0xDEADBE9F#32 [])) = some (some (.word 0xFFFFFFFF#32)) := by
  decide
theorem test_rdata_status :
    (readData ill { State.reset.flash with fstatus := 0x02#8, lastCmd := 0x00000105#32 }).response =
      some (.word 0x00000002#32) := by decide
-- V-L15; V-F08 (SENSOR's part).
theorem test_reset_flash :
    field? flashRegs (exec (.reset .flash) (flashIn 0x02#8 0x9F#32 [])) = some (0x00#8, 0x00000000#32) := by decide
theorem test_reset_sensor :
    field? (fun t => (t.sensor.sel, t.sensor.phase, t.sensor.ctrl4)) (exec (.reset .sensor) (machine .writing 0x20#7 [])) =
      some (false, .idle, 0x43#8) := by decide

/-! ### Witnesses: for each obligation with hypotheses, a state and operands that meet all of them, clause by clause -/

/-- 128 addresses and ten registers: some address is not mapped, whatever the map. -/
theorem unmapped_exists (P : Params) : ∃ a : Addr7, ∀ r, P.addr r ≠ a := by
  by_contra h
  push Not at h
  have hle : Finset.univ.image (fun n : Fin 128 => BitVec.ofFin (w := 7) n) ⊆ (SReg.all.map P.addr).toFinset := by
    intro a _
    obtain ⟨r, hr⟩ := h a
    exact List.mem_toFinset.2 (List.mem_map.2 ⟨r, SReg.mem_all r, hr⟩)
  have hcard := Finset.card_le_card hle
  rw [Finset.card_image_of_injective _ (fun x y e => by injection e)] at hcard
  exact absurd (hcard.trans (List.toFinset_card_le _)) (by simp [SReg.all])

/-- Some opcode belongs to no row, whatever P_OP_RDSR. -/
theorem unimplemented_exists (P : Params) :
    ∃ op : Byte, op ≠ 0x06#8 ∧ op ≠ 0xFF#8 ∧ op ≠ 0x9F#8 ∧ op ≠ P.opRdsr := by
  by_cases h : P.opRdsr = 0x00#8
  · exact ⟨0x04#8, by decide, by decide, by decide, by rw [h]; decide⟩
  · exact ⟨0x00#8, by decide, by decide, by decide, fun e => h e.symm⟩

theorem witness_ResetStateHoldsTheSpecifiedValues :
    (Config.params.resetPolicy = .literal ∨ Config.params.resetPolicy = .recomputed) ∧
    ill.resetPolicy = .literal ∧ illRec.resetPolicy = .recomputed :=
  ⟨by cases Config.params.resetPolicy <;> simp, rfl, rfl⟩

/-- SENSOR's invariant as at reset, with an event to come. -/
theorem witness_EveryStepKeepsTheInvariant :
    ∃ t, State.Inv { State.reset with pending := [.sensor (.cs true)] } ∧
      step { State.reset with pending := [.sensor (.cs true)] } = .next t := by
  refine ⟨_, ⟨⟨fun _ => rfl, rfl, ?_, ?_, ?_⟩, .inl rfl⟩, rfl⟩
  · exact (resetSensor_inv (P := Config.params) (s := sensorIn .idle 0#7)).other_status_bits
  · exact fun a => by cases a <;> exact drawAccel_mem _
  · exact (resetSensor_inv (P := Config.params) (s := sensorIn .idle 0#7)).flags_fresh

theorem witness_ResetOfSensorRestoresItsRegisters :
    ill.resetPolicy = .literal ∧ illRec.resetPolicy = .recomputed := ⟨rfl, rfl⟩

theorem witness_ResetGivesThePowerOnState :
    (machine .writing 0x20#7 []).sensor.faulted = none ∧ (flashIn 0x02#8 0x9F#32 []).flash.faulted = none := ⟨rfl, rfl⟩

theorem witness_DecodeInvertsEncode :
    Instr.wf ill (.flUnimpl 0xFFFFFF#24 0x04#8) = true ∧ Instr.wf ill (.spiAddrRd 0x7F#7) = true := by decide

theorem witness_OpcodeMapReadsTheLowByteAlone :
    (0x12345606#32 &&& 0x000000FF#32 = 0x00000006#32) ∧ (0xFFFFFFFF#32 &&& 0x000000FF#32 = 0x000000FF#32) ∧
    (0xDEADBE9F#32 &&& 0x000000FF#32 = 0x0000009F#32) ∧ (0x00000105#32 &&& 0x000000FF#32 = ill.opRdsr.setWidth 32) ∧
    (0x00000600#32 &&& 0x000000FF#32 ≠ 0x00000006#32 ∧ 0x00000600#32 &&& 0x000000FF#32 ≠ 0x000000FF#32 ∧
      0x00000600#32 &&& 0x000000FF#32 ≠ 0x0000009F#32 ∧ 0x00000600#32 &&& 0x000000FF#32 ≠ ill.opRdsr.setWidth 32) := by
  decide

theorem witness_StepRunsTheDecodedEvent :
    ((deselected []).faultOf .sensor = none ∧ (deselected []).faultOf .flash = none) ∧
    decodeEvent Config.params .idle (.sensor (.xfer 0x8F#8)) = .instr (.spiAddrRd 0x0F#7) ∧
    decodeEvent Config.params .idle (.flash (.xfer 0x9F#8)) = .reject .flashSerial := ⟨⟨rfl, rfl⟩, rfl, rfl⟩

theorem witness_BytesAndWordsRunTheirRows :
    ((machine .idle 0#7 [.sensor (.xfer 0x8F#8)]).pending = .sensor (.xfer 0x8F#8) :: [] ∧
      (machine .idle 0#7 [.sensor (.xfer 0x8F#8)]).sensor.faulted = none) ∧
    ((machine .idle 0#7 [.flash (.wcmd 0x06#32)]).pending = .flash (.wcmd 0x06#32) :: [] ∧
      (machine .idle 0#7 [.flash (.wcmd 0x06#32)]).flash.faulted = none) := ⟨⟨rfl, rfl⟩, rfl, rfl⟩

theorem witness_NothingHappensWithoutAnEvent : State.reset.pending = [] := rfl

theorem witness_EventsAreConsumedInOrder :
    ∃ t, step (machine .idle 0#7 [.flash .rdata, .sensor .getsens]) = .next t := ⟨_, rfl⟩

/-- Two states that agree in SENSOR alone, two that agree in FLASH alone, and each outcome of a step. -/
theorem witness_InstancesShareNothing :
    let e1 : HostEvent := .sensor .getsens
    let e2 : HostEvent := .flash .rdata
    let other : Flash := { State.reset.flash with fstatus := 0x02#8 }
    (e1.target = .sensor ∧ (machine .idle 0#7 [e1]).sensor = { machine .idle 0#7 [e1] with flash := other }.sensor ∧
      (∃ t, step (machine .idle 0#7 [e1]) = .next t) ∧
      step (deselected [.sensor (.xfer 0x00#8)]) = .fault (.unselectedByte 0x00#8)) ∧
    (e2.target = .flash ∧ (machine .idle 0#7 [e2]).flash = (deselected [e2]).flash ∧
      (∃ t, step (machine .idle 0#7 [e2]) = .next t) ∧
      step (machine .idle 0#7 [.flash .finish]) = .refused .flashSerial ∧
      step { machine .idle 0#7 [e2] with flash := { other with faulted := some (.idleData 0#8) } } =
        .fault (.idleData 0#8)) :=
  ⟨⟨rfl, rfl, ⟨_, rfl⟩, rfl⟩, rfl, rfl, ⟨_, rfl⟩, rfl, rfl⟩

theorem witness_DeselectionDiscardsTheTransaction :
    (Instr.csDeassert .sensor = .csDeassert .sensor ∨ Instr.csDeassert .sensor = .finish .sensor) ∧
    (Instr.finish .sensor = .csDeassert .sensor ∨ Instr.finish .sensor = .finish .sensor) := ⟨.inl rfl, .inr rfl⟩

theorem witness_FinishIsDeselection : ∃ t, exec (.csDeassert .sensor) (machine .writing 0x20#7 []) = .next t := ⟨_, rfl⟩

theorem witness_ReadAddressByteOpensReading :
    (machine .idle 0#7 []).sensor.sel = true ∧ (machine .idle 0#7 []).sensor.phase = .idle := ⟨rfl, rfl⟩

theorem witness_WriteAddressByteOpensWriting :
    (machine .idle 0x7F#7 []).sensor.sel = true ∧ (machine .idle 0x7F#7 []).sensor.phase = .idle := ⟨rfl, rfl⟩

theorem witness_TransactionEndsOnlyByDeselectionOrReset :
    (machine .reading 0x28#7 []).sensor.phase ≠ .idle ∧
    ∀ e ∈ [HostEvent.sensor (.xfer 0#8), .sensor (.cs true), .flash .reset, .flash (.cs false), .sensor (.setacc .x 1)],
      e ≠ .sensor (.cs false) ∧ e ≠ .sensor .finish ∧ e ≠ .sensor .reset := by decide

theorem witness_ReselectionRestartsDecoding : (machine .writing 0x20#7 []).sensor.faulted = none := rfl

/-- An Idle machine, with each outcome of a step, and a step that opens a transaction. -/
theorem witness_TargetIsNotReadWhileIdle :
    (machine .idle 0#7 [.sensor (.xfer 0x8F#8)]).sensor.phase = .idle ∧
    (∃ t, step (machine .idle 0#7 [.sensor (.xfer 0x8F#8)]) = .next t ∧ t.sensor.phase ≠ .idle) ∧
    step (deselected [.sensor (.xfer 0x8F#8)]) = .fault (.unselectedByte 0x8F#8) ∧
    step (deselected [.flash .finish]) = .refused .flashSerial :=
  ⟨rfl, ⟨_, rfl, by decide⟩, rfl, rfl⟩

theorem witness_DataByteInReadingAnswersTheTarget :
    (machine .reading 0x28#7 []).sensor.sel = true ∧ (machine .reading 0x28#7 []).sensor.phase = .reading := ⟨rfl, rfl⟩

theorem witness_EveryAddressReadsAsItsRegister : ∀ P : Params, ∃ a : Addr7, ∀ r, P.addr r ≠ a := unmapped_exists

theorem witness_UnmappedAddressReadsZeroAndDropsWrites :
    ∃ a b : Addr7, (∀ r, Config.params.addr r ≠ a) ∧ b ≠ Config.params.addr .status ∧
      (machine .reading a []).sensor.sel = true ∧ (machine .reading a []).sensor.target = a ∧
      (machine .reading a []).sensor.phase = .reading ∧ (machine .writing a []).sensor.phase = .writing := by
  obtain ⟨a, ha⟩ := unmapped_exists Config.params
  exact ⟨a, a, ha, fun e => ha _ e.symm, rfl, rfl, rfl, rfl⟩

theorem witness_DataByteInWritingStoresAndRecomputes :
    (machine .writing (Config.params.addr .ctrl4) []).sensor.sel = true ∧
    (machine .writing (Config.params.addr .ctrl4) []).sensor.phase = .writing ∧
    (machine .writing (Config.params.addr .ctrl4) []).sensor.target = Config.params.addr .ctrl4 ∧
    (machine .writing (Config.params.addr .ctrl5) []).sensor.target ≠ Config.params.addr .ctrl4 :=
  ⟨rfl, rfl, rfl, fun e => absurd (Config.params.addr_inj _ _ e) (by decide)⟩

/-- The three clauses of DA, each reached by a SETEN: RATE zero; every axis enabled; an axis disabled. -/
theorem witness_FlagsFollowControlFourAfterEveryWrite :
    let s0 : State := { machine .idle 0#7 [] with sensor := { sensorIn .idle 0#7 with ctrl4 := 0x00#8 } }
    let s1 : State := { machine .idle 0#7 [] with sensor := { sensorIn .idle 0#7 with ctrl4 := 0xFF#8 } }
    let L := Config.params.ctrl4
    (∃ t, exec (.seten .x false) s0 = .next t ∧ t.sensor.ctrl4.extractLsb' L.rateLo L.rateWidth = 0) ∧
    (∃ t, exec (.seten .x true) s1 = .next t ∧ t.sensor.ctrl4.extractLsb' L.rateLo L.rateWidth ≠ 0 ∧
      (t.sensor.ctrl4.getLsbD L.xen = true ∧ t.sensor.ctrl4.getLsbD L.yen = true ∧ t.sensor.ctrl4.getLsbD L.zen = true)) ∧
    (∃ t, exec (.seten .x false) s1 = .next t ∧ t.sensor.ctrl4.extractLsb' L.rateLo L.rateWidth ≠ 0 ∧
      ¬ (t.sensor.ctrl4.getLsbD L.xen = true ∧ t.sensor.ctrl4.getLsbD L.yen = true ∧
        t.sensor.ctrl4.getLsbD L.zen = true)) := by
  intro s0 s1 L
  have hw := L.rate_nonempty
  have hf := L.rate_fits
  have rate_ne : ∀ c : Byte, c.getLsbD L.rateLo = true → c.extractLsb' L.rateLo L.rateWidth ≠ 0 := by
    intro c hc h
    have h0 := congrArg (·.getLsbD 0) h
    simp [hw, hc] at h0
  have hx : L.rateLo ≠ L.xen.val := by
    have := L.enables_outside_rate L.xen (by simp)
    omega
  have hset : ∀ i k : Fin 8, (setBit 0xFF#8 k true).getLsbD i = true := by decide
  have hclr : ∀ i k : Fin 8, i ≠ k → (setBit 0xFF#8 k false).getLsbD i = true := by decide
  have hclr' : ∀ k : Fin 8, (setBit 0xFF#8 k false).getLsbD k = false := by decide
  have hz : ∀ k : Fin 8, setBit 0x00#8 k false = 0x00#8 := by decide
  have hr : L.rateLo < 8 := by omega
  refine ⟨⟨_, rfl, ?_⟩, ⟨_, rfl, rate_ne _ ?_, ?_, ?_, ?_⟩, ⟨_, rfl, rate_ne _ ?_, fun h => ?_⟩⟩
  · show (setBit 0x00#8 L.xen false).extractLsb' L.rateLo L.rateWidth = 0
    rw [hz]; simp
  · exact hset ⟨L.rateLo, hr⟩ L.xen
  · exact hset L.xen L.xen
  · exact hset L.yen L.xen
  · exact hset L.zen L.xen
  · exact hclr ⟨L.rateLo, hr⟩ L.xen (fun e => hx (congrArg Fin.val e))
  · exact Bool.false_ne_true ((hclr' L.xen).symm.trans h.1)

theorem witness_BurstsStayOnOneRegister :
    (machine .reading 0x28#7 []).sensor.faulted = none ∧ (machine .reading 0x28#7 []).sensor.sel = true ∧
    (machine .reading 0x28#7 []).sensor.phase = .reading ∧ (machine .writing 0x20#7 []).sensor.phase = .writing :=
  ⟨rfl, rfl, rfl, rfl⟩

theorem witness_ControlRegistersReadBackWhatWasWritten :
    (SReg.ctrl5 = .ctrl4 ∨ SReg.ctrl5 = .ctrl5) ∧ State.reset.sensor.faulted = none ∧ State.reset.sensor.phase = .idle :=
  ⟨.inr rfl, rfl, rfl⟩

theorem witness_ReadsHaveNoSideEffect :
    (∃ t, exec (.spiDataRd 0x00#8) (machine .reading 0x28#7 []) = .next t) ∧
    (∃ t, exec .rdata (machine .idle 0#7 []) = .next t) ∧ (∃ t, exec .getsens (machine .idle 0#7 []) = .next t) :=
  ⟨⟨_, rfl⟩, ⟨_, rfl⟩, ⟨_, rfl⟩⟩

theorem witness_OnlyFourInstructionsChangeWhatRegistersRead :
    (∀ d, Instr.finish .sensor ≠ .spiDataWr d) ∧ (∀ a v, Instr.finish .sensor ≠ .setacc a v) ∧
    (∀ a e, Instr.finish .sensor ≠ .seten a e) ∧ Instr.finish .sensor ≠ .reset .sensor ∧
    ∃ t, exec (.finish .sensor) (machine .writing 0x20#7 []) = .next t :=
  ⟨by simp, by simp, by simp, by simp, _, rfl⟩

/-- One event per clause that moves the state named. -/
theorem witness_EachRegisterMovesByItsOwnEventsOnly :
    let m := machine .writing (Config.params.addr .ctrl4)
    (∃ t, step (m [.sensor (.cs false)]) = .next t ∧ t.sensor.sel ≠ true) ∧
    (∃ t, step (m [.sensor (.xfer 0x67#8)]) = .next t ∧ t.sensor.ctrl4 ≠ 0x43#8) ∧
    (∃ t, step (machine .writing (Config.params.addr .ctrl5) [.sensor (.xfer 0x08#8)]) = .next t ∧
      t.sensor.ctrl5 ≠ 0x00#8) ∧
    (∃ t, step { m [.sensor .reset] with sensor := { sensorIn .idle 0#7 with whoami := 0x00#8 } } = .next t ∧
      t.sensor.whoami ≠ 0x00#8) ∧
    (∃ t, step (m [.sensor (.setacc .x 19)]) = .next t ∧ t.sensor.axis ≠ ⟨1, 2, 0⟩) ∧
    (∃ t, step (m [.flash (.wcmd 0x9F#32)]) = .next t ∧ t.flash.lastCmd ≠ 0x00000000#32) := by
  have h4 : ∀ d s, (dataWrite Config.params d (sensorIn .writing (Config.params.addr .ctrl4))) = s → s.ctrl4 = d := by
    rintro d _ rfl; simp [dataWrite_eq, sensorIn]
  have h5 : ∀ d s, (dataWrite Config.params d (sensorIn .writing (Config.params.addr .ctrl5))) = s → s.ctrl5 = d := by
    rintro d _ rfl; simp [dataWrite_eq, sensorIn]
  refine ⟨⟨_, rfl, nofun⟩, ⟨_, rfl, fun e => ?_⟩, ⟨_, rfl, fun e => ?_⟩, ⟨_, rfl, by decide⟩, ⟨_, rfl, by decide +kernel⟩,
    ⟨_, rfl, by decide⟩⟩
  · exact absurd ((h4 _ _ rfl).symm.trans e) (by decide)
  · exact absurd ((h5 _ _ rfl).symm.trans e) (by decide)

/-- An address byte, then a deselection, that move the phase; an address byte that moves the target; a command word of each
of the two opcodes, and RESET, that move the flash status. -/
theorem witness_EachRegisterMovesByItsOwnEventsOnly_framer_and_fstatus :
    (∃ t, step (machine .idle 0x00#7 [.sensor (.xfer 0x8F#8)]) = .next t ∧ t.sensor.phase ≠ .idle ∧
      t.sensor.target ≠ 0x00#7) ∧
    (∃ t, step (machine .reading 0x0F#7 [.sensor .finish]) = .next t ∧ t.sensor.phase ≠ .reading) ∧
    (∃ t, step (flashIn 0x00#8 0#32 [.flash (.wcmd 0x12345606#32)]) = .next t ∧ t.flash.fstatus ≠ 0x00#8) ∧
    (∃ t, step (flashIn 0x02#8 0#32 [.flash (.wcmd 0xFF#32)]) = .next t ∧ t.flash.fstatus ≠ 0x02#8) ∧
    (∃ t, step (flashIn 0x02#8 0#32 [.flash .reset]) = .next t ∧ t.flash.fstatus ≠ 0x02#8) := by
  refine ⟨⟨_, rfl, ?_⟩, ⟨_, rfl, ?_⟩, ⟨_, rfl, ?_⟩, ⟨_, rfl, ?_⟩, ⟨_, rfl, ?_⟩⟩ <;> decide

/-- A data byte of a Writing transaction that moves STATUS: RATE zero clears the flags of a STATUS with all of them set. -/
theorem witness_EachRegisterMovesByItsOwnEventsOnly_status :
    ∃ t, step { machine .writing (Config.params.addr .ctrl4) [.sensor (.xfer 0x00#8)] with
      sensor := { sensorIn .writing (Config.params.addr .ctrl4) with status := 0xFF#8 } } = .next t ∧
      t.sensor.status ≠ 0xFF#8 := by
  have hones : ∀ k : Fin 8, (0xFF#8).getLsbD k = true := by decide
  have hw : (dataWrite Config.params 0x00#8 { sensorIn .writing (Config.params.addr .ctrl4) with status := 0xFF#8 }).status =
      recomputed Config.params 0x00#8 0xFF#8 := by simp [dataWrite_eq, sensorIn]
  refine ⟨_, rfl, fun e => ?_⟩
  have h := congrArg (fun st => (flagsOf Config.params st).xda) (hw.symm.trans e)
  simp only [flagsOf_recomputed] at h
  have h0 : rate Config.params 0x00#8 = 0 := by simp [rate, field]
  rw [dataAvailable, if_pos h0] at h
  exact Bool.false_ne_true (h.trans (hones Config.params.status.xda))

theorem witness_PowerDownClearsTheFlagsAlone :
    (machine .writing (Config.params.addr .ctrl4) []).sensor.sel = true ∧
    (machine .writing (Config.params.addr .ctrl4) []).sensor.phase = .writing ∧
    (machine .writing (Config.params.addr .ctrl4) []).sensor.target = Config.params.addr .ctrl4 ∧
    (0x00#8).extractLsb' Config.params.ctrl4.rateLo Config.params.ctrl4.rateWidth = 0 :=
  ⟨rfl, rfl, rfl, by simp⟩

/-- A SENSOR in power-down, in the middle of a transaction. -/
theorem witness_PowerDownStopsNothing :
    { sensorIn .writing 0x20#7 with ctrl4 := 0x00#8 }.faulted = none ∧
    (0x00#8).extractLsb' Config.params.ctrl4.rateLo Config.params.ctrl4.rateWidth = 0 := ⟨rfl, by simp⟩

/-- Two states that differ in CTRL4, in another axis and in the framer. -/
theorem witness_OutputsDependOnAxisAndFullScaleAlone :
    let s := sensorIn .idle 0#7
    let s' := { sensorIn .reading 0x20#7 with ctrl4 := 0x00#8, axis := ⟨1, -19, 19⟩ }
    s.axis.get .x = s'.axis.get .x ∧ s.ctrl5.extractLsb' ill.ctrl5.fsLo 3 = s'.ctrl5.extractLsb' ill.ctrl5.fsLo 3 :=
  ⟨rfl, rfl⟩

theorem witness_OneGravityReadsWithinOneLsb :
    State.reset.sensor.ctrl5.extractLsb' Config.params.ctrl5.fsLo 3 = 0 := by
  simp [State.reset, Literal.ctrl5Reset]

/-- The bounds are in range; a value just above or just below is not. -/
theorem witness_SetAccelerationStoresInRangeValuesOnly :
    ((-19 : Rat) ≤ 19 ∧ (19 : Rat) ≤ 19) ∧ ((-19 : Rat) ≤ -19 ∧ (-19 : Rat) ≤ 19) ∧
    ((mkRat 19000001 1000000 : Rat) < -19 ∨ 19 < mkRat 19000001 1000000) ∧
    ((mkRat (-19000001) 1000000 : Rat) < -19 ∨ 19 < mkRat (-19000001) 1000000) := by
  decide +kernel

theorem witness_StimulusIgnoresTheFramer :
    ∃ i : Instr, (∃ a v, i = .setacc a v) ∨ (∃ a e, i = .seten a e) ∨ i = .getsens := ⟨.getsens, .inr (.inr rfl)⟩

theorem witness_OtherCommandsOnlyRecordTheWord :
    ∃ op : Byte, op ≠ 0x06#8 ∧ op ≠ 0xFF#8 ∧ op ≠ 0x9F#8 ∧ op ≠ Config.params.opRdsr := unimplemented_exists _

theorem witness_CommandWriteRecordsAndExecutes :
    (0x12345606#32 &&& 0x000000FF#32 = 0x00000006#32) ∧ (0x000000FF#32 &&& 0x000000FF#32 = 0x000000FF#32) ∧
    (0x0000009F#32 &&& 0x000000FF#32 ≠ 0x00000006#32 ∧ 0x0000009F#32 &&& 0x000000FF#32 ≠ 0x000000FF#32) := by decide

theorem witness_ReadDataAnswersForTheLastCommand :
    (flashIn 0x02#8 0xDEADBE9F#32 []).flash.lastCmd.extractLsb' 0 8 = 0x9F#8 ∧
    (flashIn 0x02#8 (commandWord 0x000001#24 Config.params.opRdsr) []).flash.lastCmd.extractLsb' 0 8 =
      Config.params.opRdsr := ⟨by decide, opOf_commandWord _ _⟩

theorem witness_ReadIdIsAnsweredWithAllOnes : (flashIn 0x02#8 0#32 []).flash.faulted = none := rfl

theorem witness_StatusQueriesShowTheLatch : State.reset.flash.faulted = none := rfl

/-- WEL cleared by FL_EXITCM and by RESET, set by FL_WREN through the event and through the register bus. -/
theorem witness_WriteEnableLatchMovesByItsCommandsOnly :
    (∃ t, step (flashIn 0x02#8 0#32 [.flash (.wcmd 0xFF#32)]) = .next t ∧ wel 0x02#8 = true ∧
      wel t.flash.fstatus = false) ∧
    (∃ t, step (flashIn 0x02#8 0#32 [.flash .reset]) = .next t ∧ wel t.flash.fstatus = false) ∧
    (∃ t, step (flashIn 0x00#8 0#32 [.flash (.wcmd 0x12345606#32)]) = .next t ∧ wel 0x00#8 = false ∧
      wel t.flash.fstatus = true) ∧
    (∃ t, step (flashIn 0x00#8 0#32 [.flash (.memWrite Config.params.cmdOffset (.b32 0x06#32))]) = .next t ∧
      wel t.flash.fstatus = true) := by
  have hbus : step (flashIn 0x00#8 0#32 [.flash (.memWrite Config.params.cmdOffset (.b32 0x06#32))]) =
      exec (.wcmd 0x06#32) (flashIn 0x00#8 0#32 []) :=
    step_run rfl rfl (by simp [decodeEvent, decodeFlashEvent, decodeMemWrite])
  refine ⟨⟨_, rfl, by decide, ?_⟩, ⟨_, rfl, ?_⟩, ⟨_, rfl, by decide, ?_⟩, ⟨_, hbus.trans (exec_wcmd _ _), ?_⟩⟩ <;> decide

/-- Some offset is none of two. -/
theorem offset_outside (a b : Nat) : ∃ off, off ≠ a ∧ off ≠ b := ⟨a + b + 1, by omega, by omega⟩

/-- Each clause at an offset and a width of its own. -/
theorem witness_OnlyTheTwoRegisterBusAccessesHaveAMeaning :
    let s := fun e => flashIn 0x00#8 0#32 [HostEvent.flash e]
    (s .rdata).flash.faulted = none ∧
    (s (.memWrite Config.params.cmdOffset (.b32 0x06#32))).pending =
      .flash (.memWrite Config.params.cmdOffset (.b32 0x06#32)) :: [] ∧
    (s (.memRead Config.params.rdataOffset .w32)).pending = .flash (.memRead Config.params.rdataOffset .w32) :: [] ∧
    (∀ w : Word, BusData.b8 0x06#8 ≠ .b32 w) ∧ Config.params.rdataOffset ≠ Config.params.cmdOffset ∧
    BusWidth.w16 ≠ .w32 ∧ (∃ off, off ≠ Config.params.cmdOffset ∧ off ≠ Config.params.rdataOffset) :=
  ⟨rfl, rfl, rfl, nofun, Config.params.offsets_distinct.symm, by decide,
    offset_outside _ _⟩

theorem witness_FlashRefusesTheSerialTransport :
    ∀ e ∈ [FlashEvent.cs true, .cs false, .finish, .xfer 0x9F#8],
      (deselected [.flash e]).pending = .flash e :: [] ∧ (deselected [.flash e]).flash.faulted = none ∧
      ((∃ level, e = .cs level) ∨ e = .finish ∨ (∃ b, e = .xfer b)) := by
  intro e he
  refine ⟨rfl, rfl, ?_⟩
  rcases List.mem_cons.1 he with rfl | he
  · exact .inl ⟨_, rfl⟩
  · simp only [List.mem_cons, List.not_mem_nil, or_false] at he
    rcases he with rfl | rfl | rfl <;> simp

theorem witness_SensorFaultsExactlyOnAnUnselectedByte :
    (deselected [.sensor (.xfer 0x8F#8)]).pending = .sensor (.xfer 0x8F#8) :: [] ∧
    (deselected [.sensor (.xfer 0x8F#8)]).sensor.faulted = none ∧
    step (deselected [.sensor (.xfer 0x8F#8)]) = .fault (.unselectedByte 0x8F#8) := ⟨rfl, rfl, rfl⟩

theorem witness_IdleDataIsUnreachable :
    ((machine .idle 0#7 []).sensor.sel = true ∧ (machine .idle 0#7 []).sensor.phase = .idle) ∧
    State.reset.sensor.faulted ≠ some (.idleData 0#8) ∧ State.reset.flash.faulted ≠ some (.idleData 0#8) := by
  exact ⟨⟨rfl, rfl⟩, nofun, nofun⟩

theorem witness_ByteRowsFaultWhileDeselected : State.reset.sensor.sel = false := rfl

theorem witness_EachInstanceStopsForItsOwnReasonsOnly :
    ((deselected [.sensor (.xfer 0#8)]).faultOf (HostEvent.sensor (.xfer 0#8)).target = none ∧
      HostEvent.target (.sensor (.xfer 0#8)) = .sensor) ∧
    ((deselected [.flash .finish]).faultOf (HostEvent.flash .finish).target = none ∧
      HostEvent.target (.flash .finish) = .flash ∧ step (deselected [.flash .finish]) = .refused .flashSerial) :=
  ⟨⟨rfl, rfl⟩, rfl, rfl, rfl⟩

theorem witness_FaultAppliesNothingOfItsEvent :
    (deselected [.sensor (.xfer 0xA0#8)]).pending = .sensor (.xfer 0xA0#8) :: [] ∧
    step (deselected [.sensor (.xfer 0xA0#8)]) = .fault (.unselectedByte 0xA0#8) := ⟨rfl, rfl⟩

/-- A faulted SENSOR beside another with the same FLASH, a faulted FLASH beside another with the same SENSOR, and a refused
run. -/
theorem witness_FaultsAndRefusalsAreFinal :
    ((afterStep (deselected [.sensor (.xfer 0xA0#8)])).sensor.faulted ≠ none ∧
      (machine .reading 0x20#7 []).flash = (afterStep (deselected [.sensor (.xfer 0xA0#8)])).flash) ∧
    ({ State.reset.flash with faulted := some (.idleData 0#8) }.faulted ≠ none ∧
      (flashIn 0x02#8 0#32 []).sensor =
        { machine .idle 0#7 [] with flash := { State.reset.flash with faulted := some (.idleData 0#8) } }.sensor) ∧
    (afterStep (deselected [.flash (.xfer 0x9F#8)])).refused = true :=
  ⟨⟨by decide, rfl⟩, ⟨nofun, rfl⟩, rfl⟩

theorem witness_FaultedInstanceAnswersItsFault :
    let s := { deselected [.sensor .reset] with
      sensor := { sensorIn .idle 0#7 with faulted := some (.unselectedByte 0xA0#8) } }
    s.pending = .sensor .reset :: [] ∧ s.faultOf (HostEvent.sensor .reset).target = some (.unselectedByte 0xA0#8) :=
  ⟨rfl, rfl⟩

end Sys2Proof.Tests
end

section
/-! The scope of a step (spec/00_scope.md): with an event and without one. -/

namespace Sys2Proof.Machine

/-- Settles O11: R165's order of checks, from the two laws of a step that meets a live instance. -/
theorem stepRunsTheDecodedEvent : Obligations.StepRunsTheDecodedEvent := by
  intro s e rest hpending hlive
  constructor
  · intro i hdecode
    exact step_run hpending hlive hdecode
  · intro r hdecode
    exact step_rejected hpending hlive hdecode

/-- Settles O13: the law of a step on an empty event list (log 2). -/
theorem nothingHappensWithoutAnEvent : Obligations.NothingHappensWithoutAnEvent :=
  fun _ hempty => step_no_event hempty

end Sys2Proof.Machine
end

section
/-! What one step does to the state (spec/10_state.md, spec/40_framer.md, spec/41_sensor_commands.md,
spec/42_flash_commands.md), by the event it takes: one case per event of each instance. -/

namespace Sys2Proof.Machine

/-- What a step makes of SENSOR `x` by its event (R90 to R95, R110, R111, R118, R119, R121, R180). The three operations
that branch stand by their equations, so that a field they leave is seen to be left. -/
inductive SensorStep (P : Params) (x : Sensor) : SensorEvent → Sensor → Prop
  | select : SensorStep P x (.cs true) { x with sel := true, response := none }
  | deselect : SensorStep P x (.cs false) (Machine.deselect x)
  | finish : SensorStep P x .finish (Machine.deselect x)
  | address (b : Byte) (hsel : x.sel = true) (hidle : x.phase = .idle) :
      SensorStep P x (.xfer b) (openTransaction (if rwOf b then .reading else .writing) (addrOf b) x)
  | read (b : Byte) (hsel : x.sel = true) (hreading : x.phase = .reading) : SensorStep P x (.xfer b) (dataRead P x)
  | write (b : Byte) (hsel : x.sel = true) (hwriting : x.phase = .writing) :
      SensorStep P x (.xfer b)
        { x with
          ctrl4 := if x.target = P.addr .ctrl4 then b else x.ctrl4
          ctrl5 := if x.target = P.addr .ctrl5 then b else x.ctrl5
          status := recomputed P (if x.target = P.addr .ctrl4 then b else x.ctrl4) x.status
          response := some (.byte (Config.freeByte x.draws))
          draws := x.draws + 1 }
  | setacc (a : Axis) (v : Rat) :
      SensorStep P x (.setacc a v)
        { x with
          axis := if Literal.accelMin ≤ v ∧ v ≤ Literal.accelMax then x.axis.set a v else x.axis
          response := none }
  | seten (a : Axis) (e : Bool) : SensorStep P x (.seten a e) (setEnable P a e x)
  | getsens : SensorStep P x .getsens (getSensitivity P x)
  | reset : SensorStep P x .reset (resetSensor P x)

/-- A word `w` written to the command register, by the command event or over the register bus (R52, R80). -/
def writesCommand (P : Params) (w : Word) (e : FlashEvent) : Prop :=
  e = .wcmd w ∨ e = .memWrite P.cmdOffset (.b32 w)

/-- A read of the read-data register, by its event or over the register bus (R52, R80). -/
def readsData (P : Params) (e : FlashEvent) : Prop := e = .rdata ∨ e = .memRead P.rdataOffset .w32

/-- What a step makes of FLASH `f` by its event (R140, R146, R180); the events of R149 and R53 are refused. -/
inductive FlashStep (P : Params) (f : Flash) : FlashEvent → Flash → Prop
  | command {e : FlashEvent} (w : Word) (hw : writesCommand P w e) :
      FlashStep P f e (opcodeEffect P (opOf w) (recordCommand w f))
  | read {e : FlashEvent} (he : readsData P e) : FlashStep P f e (readData P f)
  | reset : FlashStep P f .reset (resetFlash f)

section Inversion

variable {s t : State}

/-- A byte in Idle is an address byte, whose bit 7 gives the direction (R71, R94, R95). -/
theorem exec_decodeByte_idle (b : Byte) (s : State) :
    exec (decodeByte .idle b) s =
      deliverByte b (openTransaction (if rwOf b then .reading else .writing) (addrOf b)) s := by
  have hfields := addressByte_fields b
  cases hrw : rwOf b <;> rw [hrw] at hfields <;> simp [decodeByte, hrw, hfields]

/-- A byte that is taken is an address byte in Idle and a data byte otherwise (R93). -/
theorem exec_decodeByte_next {b : Byte} (h : exec (decodeByte s.sensor.phase b) s = .next t) :
    SensorStep Config.params s.sensor (.xfer b) t.sensor ∧ t = { s with sensor := t.sensor } := by
  cases hph : s.sensor.phase with
  | idle =>
    rw [hph, exec_decodeByte_idle] at h
    obtain ⟨hsel, rfl⟩ := deliverByte_next h
    exact ⟨.address b hsel hph, rfl⟩
  | reading =>
    rw [hph] at h
    obtain ⟨hsel, -, rfl⟩ := deliverDataByte_next h
    exact ⟨.read b hsel hph, rfl⟩
  | writing =>
    rw [hph] at h
    obtain ⟨hsel, -, rfl⟩ := deliverDataByte_next h
    exact ⟨by rw [onSensor_sensor, dataWrite_eq]; exact .write b hsel hph, rfl⟩

theorem exec_sensorEvent_next {e : SensorEvent} (h : exec (decodeSensorEvent s.sensor.phase e) s = .next t) :
    SensorStep Config.params s.sensor e t.sensor ∧ t = { s with sensor := t.sensor } := by
  cases e with
  | cs level =>
    cases level with
    | false => obtain rfl := Host.Outcome.next.inj h; exact ⟨.deselect, rfl⟩
    | true =>
      obtain rfl := Host.Outcome.next.inj h
      exact ⟨by rw [onSensor_sensor, assertSelect_eq]; exact .select, rfl⟩
  | finish => obtain rfl := Host.Outcome.next.inj h; exact ⟨.finish, rfl⟩
  | xfer b => exact exec_decodeByte_next h
  | setacc a v =>
    obtain rfl := Host.Outcome.next.inj h
    exact ⟨by rw [onSensor_sensor, setAccel_eq]; exact .setacc a v, rfl⟩
  | seten a e => obtain rfl := Host.Outcome.next.inj h; exact ⟨.seten a e, rfl⟩
  | getsens => obtain rfl := Host.Outcome.next.inj h; exact ⟨.getsens, rfl⟩
  | reset => obtain rfl := Host.Outcome.next.inj h; exact ⟨.reset, rfl⟩

/-- A command-register write that runs (R140). -/
theorem exec_wcmd_next {e : FlashEvent} {w : Word} (hw : writesCommand Config.params w e)
    (h : exec (.wcmd w) s = .next t) :
    FlashStep Config.params s.flash e t.flash ∧ t = { s with flash := t.flash } := by
  obtain rfl := Host.Outcome.next.inj h
  exact ⟨.command w hw, rfl⟩

theorem decodeMemWrite_instr {P : Params} {off : Nat} {d : BusData} {i : Instr} (h : decodeMemWrite P off d = .instr i) :
    ∃ w, off = P.cmdOffset ∧ d = .b32 w ∧ i = .wcmd w := by
  cases d with
  | b32 w =>
    rw [decodeMemWrite] at h
    split at h
    · next hoff => cases h; exact ⟨w, hoff, rfl, rfl⟩
    · cases h
  | b8 | b16 | b64 => cases h

theorem decodeMemRead_instr {P : Params} {off : Nat} {width : BusWidth} {i : Instr}
    (h : decodeMemRead P off width = .instr i) : off = P.rdataOffset ∧ width = .w32 ∧ i = .rdata := by
  cases width with
  | w32 =>
    rw [decodeMemRead] at h
    split at h
    · next hoff => cases h; exact ⟨hoff, rfl, rfl⟩
    · cases h
  | w8 | w16 | w64 => cases h

theorem exec_flashEvent_next {e : FlashEvent} {i : Instr} (hd : decodeFlashEvent Config.params e = .instr i)
    (h : exec i s = .next t) : FlashStep Config.params s.flash e t.flash ∧ t = { s with flash := t.flash } := by
  cases e with
  | cs level => cases level <;> cases hd <;> cases h
  | finish => cases hd; cases h
  | xfer b => cases hd
  | wcmd w => cases hd; exact exec_wcmd_next (.inl rfl) h
  | rdata => cases hd; obtain rfl := Host.Outcome.next.inj h; exact ⟨.read (.inl rfl), rfl⟩
  | memWrite off d =>
    obtain ⟨w, rfl, rfl, rfl⟩ := decodeMemWrite_instr hd
    exact exec_wcmd_next (.inr rfl) h
  | memRead off width =>
    obtain ⟨rfl, rfl, rfl⟩ := decodeMemRead_instr hd
    obtain rfl := Host.Outcome.next.inj h
    exact ⟨.read (.inr rfl), rfl⟩
  | reset => cases hd; obtain rfl := Host.Outcome.next.inj h; exact ⟨.reset, rfl⟩

/-- Everything a step that answers a next state does: nothing where nothing is pending; else it consumes the next event
and moves the instance the event is addressed to, that instance alone (R37, R66). -/
theorem step_next_by_event (h : step s = .next t) :
    (s.pending = [] ∧ t = s) ∨
    (∃ e rest, s.pending = .sensor e :: rest ∧ SensorStep Config.params s.sensor e t.sensor ∧
      t = { s with pending := rest, sensor := t.sensor }) ∨
    (∃ e rest, s.pending = .flash e :: rest ∧ FlashStep Config.params s.flash e t.flash ∧
      t = { s with pending := rest, flash := t.flash }) := by
  obtain ⟨hnil, rfl⟩ | ⟨e, rest, i, hp, -, hd, hx⟩ := step_next_cases h
  · exact .inl ⟨hnil, rfl⟩
  · cases e with
    | sensor e =>
      cases hd
      obtain ⟨hstep, ht⟩ := exec_sensorEvent_next (s := { s with pending := rest }) hx
      exact .inr (.inl ⟨e, rest, hp, hstep, ht⟩)
    | flash e =>
      obtain ⟨hstep, ht⟩ := exec_flashEvent_next hd hx
      exact .inr (.inr ⟨e, rest, hp, hstep, ht⟩)

end Inversion

end Sys2Proof.Machine
end

section
/-! The invariant (R24, R27, R30, R33, R34, R100, R148) at reset and over a step. -/

namespace Sys2Proof.Machine

variable {P : Params}

theorem SensorStep.keeps_inv {x y : Sensor} {e : SensorEvent} (h : SensorStep P x e y) (hx : x.Inv P) : y.Inv P := by
  cases h with
  | select => exact assertSelect_eq x ▸ assertSelect_inv hx
  | deselect => exact deselect_inv hx
  | finish => exact deselect_inv hx
  | address b hsel => exact openTransaction_inv _ _ hsel hx
  | read => exact dataRead_inv hx
  | write b => exact dataWrite_eq P x b ▸ dataWrite_inv b hx
  | setacc a v => exact setAccel_eq x a v ▸ setAccel_inv a v hx
  | seten a e => exact setEnable_inv a e hx
  | getsens => exact getSensitivity_inv hx
  | reset => exact resetSensor_inv

theorem FlashStep.keeps_inv {f g : Flash} {e : FlashEvent} (h : FlashStep P f e g) (hf : f.Inv) : g.Inv := by
  cases h with
  | command w => exact opcodeEffect_inv _ (recordCommand_inv w hf)
  | read => exact readData_inv hf
  | reset => exact resetFlash_inv

/-- Settles O3: the step moves one instance by one of its operations, and each operation keeps that instance's
invariant. -/
theorem everyStepKeepsTheInvariant : Obligations.EveryStepKeepsTheInvariant := by
  intro s t hinv hstep
  obtain ⟨-, rfl⟩ | ⟨e, rest, -, hsensor, ht⟩ | ⟨e, rest, -, hflash, ht⟩ := step_next_by_event hstep
  · exact hinv
  · rw [ht]; exact ⟨hsensor.keeps_inv hinv.sensor, hinv.flash⟩
  · rw [ht]; exact ⟨hinv.sensor, hflash.keeps_inv hinv.flash⟩

/-- SENSOR after reset is what RESET makes of an instance that has not faulted nor drawn (R40, R181). -/
theorem reset_sensor_eq :
    State.reset.sensor = resetSensor Config.params { State.reset.sensor with draws := 0 } := rfl

/-- Settles O2: RESET establishes SENSOR's invariant from any state, and the flash status is 0x00. -/
theorem resetStateMeetsTheInvariant : Obligations.ResetStateMeetsTheInvariant :=
  ⟨reset_sensor_eq ▸ resetSensor_inv, .inl rfl⟩

/-- Settles O1: the literals by computation, STATUS by the policy, the axis values as draws within the range. -/
theorem resetStateHoldsTheSpecifiedValues : Obligations.ResetStateHoldsTheSpecifiedValues := by
  refine ⟨rfl, rfl, rfl, rfl, rfl, fun hliteral => ?_, fun hrecomputed => ?_, fun a => ?_, rfl, rfl, rfl, rfl, rfl⟩
  · show statusAtReset Config.params = 0x08#8
    rw [statusAtReset, hliteral]; rfl
  · show statusAtReset Config.params = _
    rw [statusAtReset, hrecomputed]; rfl
  · exact resetStateMeetsTheInvariant.sensor.axis_in_range a

end Sys2Proof.Machine
end

section
/-! What moves each piece of state, and how events are consumed (R20 to R27, R30, R34 to R37). -/

namespace Sys2Proof.Machine

variable {P : Params}

/-- Settles O14: without an event nothing moves, and an instruction runs on the tail and leaves both fields. -/
theorem eventsAreConsumedInOrder : Obligations.EventsAreConsumedInOrder := by
  intro s t hstep
  obtain ⟨hnil, rfl⟩ | ⟨e, rest, i, hp, -, -, hexec⟩ := step_next_cases hstep
  · simp [hnil]
  · rw [hp]; exact exec_next_rest hexec

section Sensor

variable {x y : Sensor} {e : SensorEvent} (h : SensorStep P x e y)
include h

theorem SensorStep.sel_moved (hm : y.sel ≠ x.sel) : (∃ level, e = .cs level) ∨ e = .finish ∨ e = .reset := by
  cases h with
  | select | deselect => exact .inl ⟨_, rfl⟩
  | finish => exact .inr (.inl rfl)
  | reset => exact .inr (.inr rfl)
  | _ => exact absurd rfl hm

/-- `phase` and `target` move together: an address byte sets both, and what ends a transaction leaves both anew. -/
theorem SensorStep.framer_moved (hm : y.phase ≠ x.phase ∨ y.target ≠ x.target) :
    (∃ b, e = .xfer b ∧ x.sel = true ∧ x.phase = .idle) ∨ e = .cs false ∨ e = .finish ∨ e = .reset := by
  cases h with
  | address b hsel hidle => exact .inl ⟨b, rfl, hsel, hidle⟩
  | deselect => exact .inr (.inl rfl)
  | finish => exact .inr (.inr (.inl rfl))
  | reset => exact .inr (.inr (.inr rfl))
  | _ => exact hm.elim (absurd rfl) (absurd rfl)

theorem SensorStep.ctrl4_moved (hm : y.ctrl4 ≠ x.ctrl4) :
    (∃ b, e = .xfer b ∧ x.phase = .writing ∧ x.target = P.addr .ctrl4) ∨ (∃ a v, e = .seten a v) ∨ e = .reset := by
  cases h with
  | write b _ hwriting => exact .inl ⟨b, rfl, hwriting, by_contra fun hne => hm (if_neg hne)⟩
  | seten a v => exact .inr (.inl ⟨a, v, rfl⟩)
  | reset => exact .inr (.inr rfl)
  | _ => exact absurd rfl hm

theorem SensorStep.ctrl5_moved (hm : y.ctrl5 ≠ x.ctrl5) :
    (∃ b, e = .xfer b ∧ x.phase = .writing ∧ x.target = P.addr .ctrl5) ∨ e = .reset := by
  cases h with
  | write b _ hwriting => exact .inl ⟨b, rfl, hwriting, by_contra fun hne => hm (if_neg hne)⟩
  | reset => exact .inr rfl
  | _ => exact absurd rfl hm

theorem SensorStep.status_moved (hm : y.status ≠ x.status) :
    (∃ b, e = .xfer b ∧ x.phase = .writing) ∨ (∃ a v, e = .seten a v) ∨ e = .reset := by
  cases h with
  | write b _ hwriting => exact .inl ⟨b, rfl, hwriting⟩
  | seten a v => exact .inr (.inl ⟨a, v, rfl⟩)
  | reset => exact .inr (.inr rfl)
  | _ => exact absurd rfl hm

theorem SensorStep.whoami_moved (hm : y.whoami ≠ x.whoami) : e = .reset := by
  cases h with
  | reset => rfl
  | _ => exact absurd rfl hm

theorem SensorStep.axis_moved (hm : y.axis ≠ x.axis) : (∃ a v, e = .setacc a v) ∨ e = .reset := by
  cases h with
  | setacc a v => exact .inl ⟨a, v, rfl⟩
  | reset => exact .inr rfl
  | _ => exact absurd rfl hm

/-- No step sets SENSOR's mark: a fault is no next state (R162, R166). -/
theorem SensorStep.faulted_kept : y.faulted = x.faulted := by
  cases h <;> rfl

end Sensor

/-- An opcode moves the status register alone, and only WriteEnable and ExitContinuousMode do (R141 to R145). -/
theorem opcodeEffect_cases (P : Params) (op : Byte) (f : Flash) :
    ((op = Literal.opWren ∨ op = Literal.opExitcm) ∧ ∃ st, opcodeEffect P op f = { f with fstatus := st }) ∨
    opcodeEffect P op f = f := by
  unfold opcodeEffect
  split
  · next hwren => exact .inl ⟨.inl hwren, _, rfl⟩
  split
  · next hexitcm => exact .inl ⟨.inr hexitcm, _, rfl⟩
  exact .inr (by simp)

@[simp] theorem opcodeEffect_lastCmd (op : Byte) (f : Flash) : (opcodeEffect P op f).lastCmd = f.lastCmd := by
  obtain ⟨-, st, h⟩ | h := opcodeEffect_cases P op f <;> rw [h]

@[simp] theorem opcodeEffect_faulted (op : Byte) (f : Flash) : (opcodeEffect P op f).faulted = f.faulted := by
  obtain ⟨-, st, h⟩ | h := opcodeEffect_cases P op f <;> rw [h]

/-! A read-data access writes no register and no mark (R57, R146). -/

@[simp] theorem readData_fstatus (P : Params) (f : Flash) : (readData P f).fstatus = f.fstatus := by
  obtain ⟨w, n, h⟩ := readData_cases P f; rw [h]

@[simp] theorem readData_lastCmd (P : Params) (f : Flash) : (readData P f).lastCmd = f.lastCmd := by
  obtain ⟨w, n, h⟩ := readData_cases P f; rw [h]

@[simp] theorem readData_faulted (P : Params) (f : Flash) : (readData P f).faulted = f.faulted := by
  obtain ⟨w, n, h⟩ := readData_cases P f; rw [h]

section Flash

variable {f g : Flash} {e : FlashEvent} (h : FlashStep P f e g)
include h

theorem FlashStep.fstatus_moved (hm : g.fstatus ≠ f.fstatus) :
    (∃ w, (opOf w = Literal.opWren ∨ opOf w = Literal.opExitcm) ∧ writesCommand P w e) ∨ e = .reset := by
  cases h with
  | command w hw =>
    obtain ⟨hop, -⟩ | hkept := opcodeEffect_cases P (opOf w) (recordCommand w f)
    · exact .inl ⟨w, hop, hw⟩
    · exact absurd (congrArg Flash.fstatus hkept) hm
  | read => exact absurd (readData_fstatus P f) hm
  | reset => exact .inr rfl

theorem FlashStep.lastCmd_moved (hm : g.lastCmd ≠ f.lastCmd) : (∃ w, writesCommand P w e) ∨ e = .reset := by
  cases h with
  | command w hw => exact .inl ⟨w, hw⟩
  | read => exact absurd (readData_lastCmd P f) hm
  | reset => exact .inr rfl

theorem FlashStep.faulted_kept : g.faulted = f.faulted := by
  cases h with
  | command w => simp
  | read => exact readData_faulted P f
  | reset => rfl

end Flash

/-- Settles O33: the step moves one instance, so each clause is that instance's, or speaks of one that did not move. -/
theorem eachRegisterMovesByItsOwnEventsOnly : Obligations.EachRegisterMovesByItsOwnEventsOnly := by
  intro s t e rest hp hstep
  obtain ⟨hnil, -⟩ | ⟨e', rest', hp', hs, ht⟩ | ⟨e', rest', hp', hf, ht⟩ := step_next_by_event hstep
  · simp [hp] at hnil
  · obtain ⟨rfl, rfl⟩ : e = .sensor e' ∧ rest = rest' := by simpa [hp] using hp'
    have hflash : t.flash = s.flash := by rw [ht]
    have hrefused : t.refused = s.refused := by rw [ht]
    simp only [hflash, hrefused, HostEvent.sensor.injEq, ne_eq, not_true_eq_false, false_implies, true_and, and_true]
    exact ⟨hs.sel_moved, fun hm => hs.framer_moved (.inl hm), fun hm => hs.framer_moved (.inr hm), hs.ctrl4_moved,
      hs.ctrl5_moved, hs.status_moved, hs.whoami_moved, hs.axis_moved, hs.faulted_kept⟩
  · obtain ⟨rfl, rfl⟩ : e = .flash e' ∧ rest = rest' := by simpa [hp] using hp'
    have hsensor : t.sensor = s.sensor := by rw [ht]
    have hrefused : t.refused = s.refused := by rw [ht]
    simp only [hsensor, hrefused, HostEvent.flash.injEq, ne_eq, not_true_eq_false, false_implies, true_and, and_true]
    exact ⟨hf.fstatus_moved, hf.lastCmd_moved, hf.faulted_kept⟩

end Sys2Proof.Machine
end

section
/-! While Idle, nothing depends on `target` (R22): every operation either sets it or carries it along. -/

namespace Sys2Proof.Machine

/-- SENSOR with another `target`. -/
def Sensor.retarget (a : Addr7) (x : Sensor) : Sensor := { x with target := a }

/-- The machine with another `target`. -/
def State.retarget (a : Addr7) (s : State) : State := s.onSensor (Sensor.retarget a)

/-- The second outcome is the first but for a `target` of `a` carried along, and that only into Idle. -/
inductive SameButTarget (a : Addr7) :
    Host.Outcome State Fault Refusal → Host.Outcome State Fault Refusal → Prop
  | overwritten (t : State) : SameButTarget a (.next t) (.next t)
  | carried (t : State) (hidle : t.sensor.phase = .idle) : SameButTarget a (.next t) (.next (t.retarget a))
  | fault (r : Fault) : SameButTarget a (.fault r) (.fault r)
  | refused (r : Refusal) : SameButTarget a (.refused r) (.refused r)

section Operations

variable {a : Addr7} {s : State} {f : Sensor → Sensor}

theorem next_sets_target (hset : f (s.sensor.retarget a) = f s.sensor) :
    SameButTarget a (.next (s.onSensor f)) (.next ((s.retarget a).onSensor f)) := by
  have heq : (s.retarget a).onSensor f = s.onSensor f := congrArg (fun x => { s with sensor := x }) hset
  rw [heq]; exact .overwritten _

theorem next_carries_target (hcarry : f (s.sensor.retarget a) = (f s.sensor).retarget a)
    (hidle : (f s.sensor).phase = .idle) :
    SameButTarget a (.next (s.onSensor f)) (.next ((s.retarget a).onSensor f)) := by
  have heq : (s.retarget a).onSensor f = (s.onSensor f).retarget a := congrArg (fun x => { s with sensor := x }) hcarry
  rw [heq]; exact .carried _ hidle

theorem next_onFlash_carries_target (g : Flash → Flash) (hidle : s.sensor.phase = .idle) :
    SameButTarget a (.next (s.onFlash g)) (.next ((s.retarget a).onFlash g)) := .carried (s.onFlash g) hidle

theorem deliverByte_sets_target (b : Byte) (hset : f (s.sensor.retarget a) = f s.sensor) :
    SameButTarget a (deliverByte b f s) (deliverByte b f (s.retarget a)) := by
  cases hsel : s.sensor.sel with
  | true =>
    rw [deliverByte_selected hsel, deliverByte_selected (s := s.retarget a) hsel]
    exact next_sets_target hset
  | false =>
    rw [deliverByte_unselected hsel, deliverByte_unselected (s := s.retarget a) hsel]
    exact .fault _

theorem assertSelect_retarget (x : Sensor) : assertSelect (x.retarget a) = (assertSelect x).retarget a := by
  simp only [assertSelect_eq, Sensor.retarget]

theorem setAccel_retarget (k : Axis) (v : Rat) (x : Sensor) :
    setAccel k v (x.retarget a) = (setAccel k v x).retarget a := by
  simp only [setAccel_eq, Sensor.retarget]

end Operations

/-- Every instruction but a data byte, run in Idle (R22). -/
theorem exec_retarget (a : Addr7) {i : Instr} {s : State} (hi : i.phase = .idle) (hidle : s.sensor.phase = .idle) :
    SameButTarget a (exec i s) (exec i (s.retarget a)) := by
  cases i with
  | spiAddrRd b => exact deliverByte_sets_target _ rfl
  | spiAddrWr b => exact deliverByte_sets_target _ rfl
  | spiDataRd d => cases hi
  | spiDataWr d => cases hi
  | csAssert k =>
    cases k with
    | sensor => exact next_carries_target (assertSelect_retarget _) (by simpa using hidle)
    | flash => exact .refused _
  | csDeassert k =>
    cases k with
    | sensor => exact next_sets_target rfl
    | flash => exact .refused _
  | finish k =>
    cases k with
    | sensor => exact next_sets_target rfl
    | flash => exact .refused _
  | setacc k v => exact next_carries_target (setAccel_retarget k v _) (by simpa [setAccel_eq] using hidle)
  | seten k e => exact next_carries_target rfl hidle
  | getsens => exact next_carries_target rfl hidle
  | reset k =>
    cases k with
    | sensor => exact next_sets_target rfl
    | flash => exact next_onFlash_carries_target _ hidle
  | flWren | flExitcm | flRdid | flRdsr | flUnimpl | wcmd | rdata => exact next_onFlash_carries_target _ hidle

/-- In Idle no event is a data byte (R72). -/
theorem decodeEvent_idle_phase {P : Params} {e : HostEvent} {i : Instr} (h : decodeEvent P .idle e = .instr i) :
    i.phase = .idle := by
  cases e with
  | sensor e =>
    cases h
    cases e with
    | cs level => cases level <;> rfl
    | xfer b => rw [decodeSensorEvent, decodeByte]; split <;> rfl
    | _ => rfl
  | flash e =>
    cases e with
    | cs level => cases level <;> cases h <;> rfl
    | memWrite off d => obtain ⟨w, -, -, rfl⟩ := decodeMemWrite_instr h; rfl
    | memRead off width => obtain ⟨-, -, rfl⟩ := decodeMemRead_instr h; rfl
    | _ => cases h <;> rfl

theorem step_retarget (a : Addr7) {s : State} (hidle : s.sensor.phase = .idle) :
    SameButTarget a (step s) (step (s.retarget a)) := by
  cases hp : s.pending with
  | nil =>
    rw [step_no_event hp, step_no_event (s := s.retarget a) hp]
    exact .carried s hidle
  | cons e rest =>
    have hfault : (s.retarget a).faultOf e.target = s.faultOf e.target := by cases e <;> rfl
    cases hf : s.faultOf e.target with
    | some r =>
      rw [step_dead hp hf, step_dead (s := s.retarget a) hp (hfault.trans hf)]
      exact .fault r
    | none =>
      cases hd : decodeEvent Config.params s.sensor.phase e with
      | reject r =>
        rw [step_rejected hp hf hd, step_rejected (s := s.retarget a) hp (hfault.trans hf) hd]
        exact .refused _
      | instr i =>
        rw [step_run hp hf hd, step_run (s := s.retarget a) hp (hfault.trans hf) hd]
        exact exec_retarget a (s := { s with pending := rest }) (decodeEvent_idle_phase (hidle ▸ hd)) hidle

/-- What agreeing but for a carried `target` says of each kind of outcome. -/
theorem SameButTarget.outcomes {a : Addr7} {o o' : Host.Outcome State Fault Refusal} (h : SameButTarget a o o') :
    (∀ t, o = .next t → ∃ t', o' = .next t' ∧
      { t' with sensor := { t'.sensor with target := t.sensor.target } } = t ∧ (t.sensor.phase ≠ .idle → t' = t)) ∧
    (∀ r, o = .fault r → o' = .fault r) ∧ (∀ r, o = .refused r → o' = .refused r) := by
  cases h with
  | overwritten t =>
    refine ⟨fun u hu => ?_, nofun, nofun⟩
    obtain rfl := Host.Outcome.next.inj hu
    exact ⟨t, rfl, rfl, fun _ => rfl⟩
  | carried t ht =>
    refine ⟨fun u hu => ?_, nofun, nofun⟩
    obtain rfl := Host.Outcome.next.inj hu
    exact ⟨_, rfl, rfl, fun hopen => absurd ht hopen⟩
  | fault r => exact ⟨fun _ hn => (by cases hn), fun _ hr => hr, fun _ hr => hr⟩
  | refused r => exact ⟨fun _ hn => (by cases hn), fun _ hr => hr, fun _ hr => hr⟩

/-- Settles O23: the two steps' outcomes are the same but for a `target` that is carried along while Idle. -/
theorem targetIsNotReadWhileIdle : Obligations.TargetIsNotReadWhileIdle :=
  fun _ a hidle => (step_retarget a hidle).outcomes

end Sys2Proof.Machine
end

section
/-! Unmapped addresses (R29). -/

namespace Sys2Proof.Machine

/-- Apart from STATUS's own address, a read depends on CTRL4, CTRL5 and the axis values alone. -/
theorem sregRead_congr_of_ne_status {P : Params} {s t : Sensor} (h4 : s.ctrl4 = t.ctrl4) (h5 : s.ctrl5 = t.ctrl5)
    (hx : s.axis = t.axis) {a : Addr7} (ha : a ≠ P.addr .status) : sregRead P a s = sregRead P a t := by
  have hstatus (st : Byte) : sregRead P a { s with status := st } = sregRead P a s := by
    unfold sregRead
    cases h : regAt P a with
    | none => rfl
    | some r =>
      cases r with
      | status => exact absurd (regAt_eq_some h) ha
      | _ => rfl
  rw [← hstatus t.status]
  exact sregRead_congr (s := { s with status := t.status }) h4 h5 rfl hx a

/-- A data byte written to an unmapped address stores nothing; STATUS is recomputed all the same (R29, R111, D47). -/
theorem dataWrite_unmapped {P : Params} {s : Sensor} (d : Byte) (h : ∀ r, P.addr r ≠ s.target) :
    dataWrite P d s = (recompute P s).answerDrawn := by
  have hne : ∀ r, s.target ≠ P.addr r := fun r e => h r e.symm
  simp [dataWrite, sregWrite_eq, hne]

/-- Settles O26: the read answers 0x00; the write leaves CTRL4, CTRL5 and the axis values, on which every address but
STATUS depends. -/
theorem unmappedAddressReadsZeroAndDropsWrites : Obligations.UnmappedAddressReadsZeroAndDropsWrites := by
  intro d s hsel hunmapped
  constructor
  · intro hreading
    refine ⟨_, deliverDataByte_open hsel (by simp [hreading]), ?_⟩
    rw [onSensor_sensor, dataRead_eq, sregRead_unmapped hunmapped]; rfl
  · intro hwriting
    refine ⟨_, deliverDataByte_open hsel (by simp [hwriting]), fun a ha => ?_⟩
    rw [onSensor_sensor, dataWrite_unmapped d hunmapped]
    apply sregRead_congr_of_ne_status _ _ _ ha <;> rfl

end Sys2Proof.Machine
end

section
/-! Register-bus accesses to FLASH (R52, R53): which have a meaning, and what a refused event does (R161). -/

namespace Sys2Proof.Machine

section Refusal

variable {P : Params} {off : Nat}

/-- A bus write that is not 32 bits wide at the command offset has no meaning (R53). -/
theorem decodeMemWrite_reject {d : BusData} (h : off ≠ P.cmdOffset ∨ ∀ w, d ≠ .b32 w) :
    decodeMemWrite P off d = .reject .flashAccess := by
  cases d with
  | b32 w =>
    have hoff : off ≠ P.cmdOffset := h.resolve_right fun hwidth => hwidth w rfl
    exact if_neg hoff
  | b8 | b16 | b64 => rfl

/-- A bus read that is not 32 bits wide at the read-data offset has no meaning (R53). -/
theorem decodeMemRead_reject {k : BusWidth} (h : off ≠ P.rdataOffset ∨ k ≠ .w32) :
    decodeMemRead P off k = .reject .flashAccess := by
  cases k with
  | w32 =>
    have hoff : off ≠ P.rdataOffset := h.resolve_right fun hwidth => hwidth rfl
    exact if_neg hoff
  | w8 | w16 | w64 => rfl

/-- An event of FLASH that decoding rejects is refused by that reason and marks the run, no more (R36, R161). -/
theorem step_flash_rejected {s : State} {e : FlashEvent} {rest : List HostEvent} {r : Reject}
    (hp : s.pending = .flash e :: rest) (hf : s.flash.faulted = none)
    (hd : decodeFlashEvent Config.params e = .reject r) :
    step s = .refused (refusalOf r) ∧ afterStep s = { s with pending := rest, refused := true } :=
  have hstep := step_rejected hp hf hd
  ⟨hstep, afterStep_refused hp hstep⟩

end Refusal

/-- Settles O49: the two accesses decode to WCMD and RDATA, and every other is rejected by name. -/
theorem onlyTheTwoRegisterBusAccessesHaveAMeaning : Obligations.OnlyTheTwoRegisterBusAccessesHaveAMeaning := by
  intro s rest off hlive
  refine ⟨fun w hp hoff => ?_, fun hp hoff => ?_, fun d hp hbad => ?_, fun k hp hbad => ?_⟩
  · exact step_run hp hlive (if_pos hoff)
  · exact step_run hp hlive (if_pos hoff)
  · exact step_flash_rejected hp hlive (decodeMemWrite_reject hbad)
  · exact step_flash_rejected hp hlive (decodeMemRead_reject hbad)

end Sys2Proof.Machine
end

section
/-! Reads, and what leaves the register file as it reads (R57, R58, R113). -/

namespace Sys2Proof.Machine

/-- A read-data access moves FLASH's answer and count of draws alone (R57, R146). -/
theorem readData_restored (P : Params) (f : Flash) :
    { readData P f with response := f.response, draws := f.draws } = f := by
  obtain ⟨w, n, h⟩ := readData_cases P f
  rw [h]

/-- Settles O31: each read answers on its own instance and writes no other field there. -/
theorem readsHaveNoSideEffect : Obligations.ReadsHaveNoSideEffect := by
  rintro i s t (⟨d, rfl⟩ | rfl | rfl) hexec
  · obtain ⟨-, -, rfl⟩ := deliverDataByte_next hexec
    rw [onSensor_sensor, dataRead_eq]; rfl
  · obtain rfl := Host.Outcome.next.inj hexec
    rw [onFlash_flash, readData_restored]; rfl
  · obtain rfl := Host.Outcome.next.inj hexec
    rfl

/-- What SENSOR does leaves every register reading as before, but in the four instructions that write CTRL4, CTRL5,
STATUS or an axis value. -/
theorem sensorEffect_keeps_reads {P : Params} {i : Instr} {f : Sensor → Sensor} (hf : sensorEffect P i = some f)
    (hwrite : ∀ d, i ≠ .spiDataWr d) (hacc : ∀ a v, i ≠ .setacc a v) (hen : ∀ a e, i ≠ .seten a e)
    (hreset : i ≠ .reset .sensor) (x : Sensor) (a : Addr7) : sregRead P a (f x) = sregRead P a x := by
  cases i with
  | spiDataWr d => exact absurd rfl (hwrite d)
  | setacc k v => exact absurd rfl (hacc k v)
  | seten k e => exact absurd rfl (hen k e)
  | reset k =>
    cases k with
    | sensor => exact absurd rfl hreset
    | flash => cases hf
  | csAssert k =>
    cases k with
    | sensor => cases hf; rw [assertSelect_eq]; exact sregRead_congr rfl rfl rfl rfl a
    | flash => cases hf
  | csDeassert k | finish k =>
    cases k with
    | sensor => cases hf; exact sregRead_congr rfl rfl rfl rfl a
    | flash => cases hf
  | spiAddrRd | spiAddrWr | spiDataRd | getsens => cases hf; exact sregRead_congr rfl rfl rfl rfl a
  | flWren | flExitcm | flRdid | flRdsr | flUnimpl | wcmd | rdata => cases hf

/-- Settles O32: an instruction acts on SENSOR by its effect there, which keeps what the registers read, or on FLASH
alone. -/
theorem onlyFourInstructionsChangeWhatRegistersRead : Obligations.OnlyFourInstructionsChangeWhatRegistersRead := by
  intro i s t hwrite hacc hen hreset hexec a
  obtain ⟨f, hf, rfl⟩ | ⟨-, g, rfl⟩ := exec_next_cases hexec
  · exact sensorEffect_keeps_reads hf hwrite hacc hen hreset s.sensor a
  · rfl

end Sys2Proof.Machine
end

section
/-! The two instances share nothing (R66): what a step makes of its own instance is the same beside any other state of
the other instance. -/

namespace Sys2Proof.Machine

/-- Two outcomes that are the same to an observer of one instance, `view`. -/
inductive SameTo {α : Type} (view : State → α) :
    Host.Outcome State Fault Refusal → Host.Outcome State Fault Refusal → Prop
  | next {t t' : State} (h : view t' = view t) : SameTo view (.next t) (.next t')
  | fault (r : Fault) : SameTo view (.fault r) (.fault r)
  | refused (r : Refusal) : SameTo view (.refused r) (.refused r)

/-- What the sameness says of each kind of outcome. -/
theorem SameTo.outcomes {α : Type} {view : State → α} {o o' : Host.Outcome State Fault Refusal}
    (h : SameTo view o o') :
    (∀ t, o = .next t → ∃ t', o' = .next t' ∧ view t' = view t) ∧
    (∀ r, o = .fault r → o' = .fault r) ∧ (∀ r, o = .refused r → o' = .refused r) := by
  cases h with
  | next hview =>
    refine ⟨fun u hu => ?_, nofun, nofun⟩
    obtain rfl := Host.Outcome.next.inj hu
    exact ⟨_, rfl, hview⟩
  | fault r => exact ⟨fun _ hn => (by cases hn), fun _ hr => hr, fun _ hr => hr⟩
  | refused r => exact ⟨fun _ hn => (by cases hn), fun _ hr => hr, fun _ hr => hr⟩

section Sensor

variable {s s' : State} (hx : s.sensor = s'.sensor)
include hx

theorem next_onSensor_sameTo (f : Sensor → Sensor) :
    SameTo State.sensor (.next (s.onSensor f)) (.next (s'.onSensor f)) := .next (congrArg f hx.symm)

theorem next_onFlash_sameTo_sensor (g : Flash → Flash) :
    SameTo State.sensor (.next (s.onFlash g)) (.next (s'.onFlash g)) := .next hx.symm

theorem serialEvent_sameTo (k : Instance) (f : Sensor → Sensor) :
    SameTo State.sensor (serialEvent k f s) (serialEvent k f s') := by
  cases k with
  | sensor => exact next_onSensor_sameTo hx f
  | flash => exact .refused _

theorem deliverByte_sameTo (b : Byte) (f : Sensor → Sensor) :
    SameTo State.sensor (deliverByte b f s) (deliverByte b f s') := by
  unfold deliverByte
  rw [← hx]
  split
  · exact next_onSensor_sameTo hx f
  · exact .fault _

theorem deliverDataByte_sameTo (b : Byte) (f : Sensor → Sensor) :
    SameTo State.sensor (deliverDataByte b f s) (deliverDataByte b f s') := by
  unfold deliverDataByte
  rw [← hx]
  split
  · exact .fault _
  · exact deliverByte_sameTo hx b f

/-- No instruction, of either instance, reads FLASH for what it does to SENSOR. -/
theorem exec_sameTo_sensor (i : Instr) : SameTo State.sensor (exec i s) (exec i s') := by
  cases i with
  | spiAddrRd | spiAddrWr => exact deliverByte_sameTo hx _ _
  | spiDataRd | spiDataWr => exact deliverDataByte_sameTo hx _ _
  | csAssert | csDeassert | finish => exact serialEvent_sameTo hx _ _
  | setacc | seten | getsens => exact next_onSensor_sameTo hx _
  | flWren | flExitcm | flRdid | flRdsr | flUnimpl | wcmd | rdata => exact next_onFlash_sameTo_sensor hx _
  | reset k =>
    cases k with
    | sensor => exact next_onSensor_sameTo hx _
    | flash => exact next_onFlash_sameTo_sensor hx _

theorem step_sameTo_sensor {e : SensorEvent} {rest rest' : List HostEvent} (hp : s.pending = .sensor e :: rest)
    (hp' : s'.pending = .sensor e :: rest') : SameTo State.sensor (step s) (step s') := by
  have hmark : s'.sensor.faulted = s.sensor.faulted := congrArg _ hx.symm
  cases hf : s.sensor.faulted with
  | some r => rw [step_dead hp hf, step_dead hp' (hmark.trans hf)]; exact .fault r
  | none =>
    have hdecode : decodeEvent Config.params s'.sensor.phase (.sensor e) =
        .instr (decodeSensorEvent s.sensor.phase e) := hx ▸ rfl
    rw [step_run hp hf rfl, step_run hp' (hmark.trans hf) hdecode]
    exact exec_sameTo_sensor (s := { s with pending := rest }) (s' := { s' with pending := rest' }) hx _

end Sensor

/-- An event of FLASH that is an instruction acts on FLASH by one function of FLASH's own state, or is refused in every
state (R140, R146, R149, R180). -/
theorem exec_flashEvent_cases {e : FlashEvent} {i : Instr} (hd : decodeFlashEvent Config.params e = .instr i) :
    (∃ g, ∀ s, exec i s = .next (s.onFlash g)) ∨ (∀ s, exec i s = .refused .flashSerial) := by
  cases e with
  | cs level => cases level <;> cases hd <;> exact .inr fun _ => rfl
  | finish => cases hd; exact .inr fun _ => rfl
  | xfer b => cases hd
  | wcmd w => cases hd; exact .inl ⟨_, exec_wcmd (w := w)⟩
  | rdata => cases hd; exact .inl ⟨_, exec_rdata⟩
  | memWrite off d => obtain ⟨w, -, -, rfl⟩ := decodeMemWrite_instr hd; exact .inl ⟨_, exec_wcmd (w := w)⟩
  | memRead off width => obtain ⟨-, -, rfl⟩ := decodeMemRead_instr hd; exact .inl ⟨_, exec_rdata⟩
  | reset => cases hd; exact .inl ⟨_, exec_reset_flash⟩

theorem step_sameTo_flash {s s' : State} (hx : s.flash = s'.flash) {e : FlashEvent} {rest rest' : List HostEvent}
    (hp : s.pending = .flash e :: rest) (hp' : s'.pending = .flash e :: rest') :
    SameTo State.flash (step s) (step s') := by
  have hmark : s'.flash.faulted = s.flash.faulted := congrArg _ hx.symm
  cases hf : s.flash.faulted with
  | some r => rw [step_dead hp hf, step_dead hp' (hmark.trans hf)]; exact .fault r
  | none =>
    cases hd : decodeFlashEvent Config.params e with
    | reject r => rw [step_rejected hp hf hd, step_rejected hp' (hmark.trans hf) hd]; exact .refused _
    | instr i =>
      rw [step_run hp hf hd, step_run hp' (hmark.trans hf) hd]
      obtain ⟨g, hg⟩ | hrefused := exec_flashEvent_cases hd
      · rw [hg, hg]; exact .next (congrArg g hx.symm)
      · rw [hrefused, hrefused]; exact .refused _

theorem step_sensor_keeps_flash {s t : State} {e : SensorEvent} {rest : List HostEvent}
    (hp : s.pending = .sensor e :: rest) (h : step s = .next t) : t.flash = s.flash := by
  obtain ⟨-, rfl⟩ | ⟨_, _, -, -, ht⟩ | ⟨_, _, hp', -⟩ := step_next_by_event h
  · rfl
  · rw [ht]
  · simp [hp] at hp'

theorem step_flash_keeps_sensor {s t : State} {e : FlashEvent} {rest : List HostEvent}
    (hp : s.pending = .flash e :: rest) (h : step s = .next t) : t.sensor = s.sensor := by
  obtain ⟨-, rfl⟩ | ⟨_, _, hp', -⟩ | ⟨_, _, -, -, ht⟩ := step_next_by_event h
  · rfl
  · simp [hp] at hp'
  · rw [ht]

/-- Settles O15: a step moves the instance its event names, and is the same to that instance beside any other state of
the other. -/
theorem instancesShareNothing : Obligations.InstancesShareNothing := by
  intro s s' e rest rest' hp hp'
  cases e with
  | sensor e =>
    refine ⟨fun _ hx => ?_, nofun⟩
    obtain ⟨hnext, hfault, -⟩ := (step_sameTo_sensor hx hp hp').outcomes
    exact ⟨fun t ht => ⟨step_sensor_keeps_flash hp ht, hnext t ht⟩, hfault⟩
  | flash e =>
    refine ⟨nofun, fun _ hx => ?_⟩
    obtain ⟨hnext, hfault, hrefused⟩ := (step_sameTo_flash hx hp hp').outcomes
    exact ⟨fun t ht => ⟨step_flash_keeps_sensor hp ht, hnext t ht⟩, hfault, hrefused⟩

end Sys2Proof.Machine
end

section
/-! Encoding (spec/30_encoding.md): the opcode map as a relation between a command word and its row, and the two round
trips between instructions and their bytes and words. -/

namespace Sys2Proof

/-- The rows of R74's opcode map: the instruction that a command word with this opcode field is. The clauses exclude each
other, since P_OP_RDSR is none of the three opcodes the source gives (R75). -/
inductive OpcodeRow (P : Params) (w : Word) : Instr → Prop
  | wren (h : opOf w = Literal.opWren) : OpcodeRow P w (.flWren (argOf w))
  | exitcm (h : opOf w = Literal.opExitcm) : OpcodeRow P w (.flExitcm (argOf w))
  | rdid (h : opOf w = Literal.opRdid) : OpcodeRow P w (.flRdid (argOf w))
  | rdsr (h : opOf w = P.opRdsr) : OpcodeRow P w (.flRdsr (argOf w))
  | unimpl (h : implementedOpcode P (opOf w) = false) : OpcodeRow P w (.flUnimpl (argOf w) (opOf w))

/-- Every word has a row, and the decoder answers it. -/
theorem opcodeRow_decodeWord (P : Params) (w : Word) : OpcodeRow P w (decodeWord P w) := by
  unfold decodeWord
  split_ifs with hwren hexitcm hrdid hrdsr
  · exact .wren hwren
  · exact .exitcm hexitcm
  · exact .rdid hrdid
  · exact .rdsr hrdsr
  · exact .unimpl (implementedOpcode_eq_false.mpr ⟨hwren, hexitcm, hrdid, hrdsr⟩)

/-- A word has no row but the one the decoder answers: the five opcode conditions exclude each other. -/
theorem OpcodeRow.decodeWord_eq {P : Params} {w : Word} {i : Instr} (h : OpcodeRow P w i) : decodeWord P w = i := by
  cases h with
  | wren h => exact if_pos h
  | exitcm h => simp [decodeWord, h, show Literal.opExitcm ≠ Literal.opWren by decide]
  | rdid h =>
    simp [decodeWord, h, show Literal.opRdid ≠ Literal.opWren by decide,
      show Literal.opRdid ≠ Literal.opExitcm by decide]
  | rdsr h =>
    obtain ⟨hwren, hexitcm, hrdid⟩ := P.opRdsr_distinct
    simp [decodeWord, h, hwren, hexitcm, hrdid]
  | unimpl h =>
    obtain ⟨hwren, hexitcm, hrdid, hrdsr⟩ := implementedOpcode_eq_false.mp h
    simp [decodeWord, hwren, hexitcm, hrdid, hrdsr]

/-- A row's instruction is well formed, and the word is its encoding. -/
theorem OpcodeRow.wf_and_encode_eq {P : Params} {w : Word} {i : Instr} (h : OpcodeRow P w i) :
    i.wf P = true ∧ encode P i = .word w := by
  cases h with
  | wren h | exitcm h | rdid h | rdsr h => exact ⟨rfl, by rw [encode, ← h, commandWord_fields]⟩
  | unimpl h => exact ⟨by simp [Instr.wf, h], by rw [encode, commandWord_fields]⟩

/-- In Idle a byte is an address byte, in the direction of its RW bit (R71). -/
@[simp] theorem decodeByte_idle_addressByte (rw : Bool) (a : Addr7) :
    decodeByte .idle (addressByte rw a) = if rw then .spiAddrRd a else .spiAddrWr a := by
  simp [decodeByte]

/-- Settles O7: an address byte gives back its two fields, a data byte is its own operand, a command word has one row,
and a host event names its instruction. -/
theorem decodeInvertsEncode : Obligations.DecodeInvertsEncode := by
  intro P i hwf
  cases i with
  | spiAddrRd a => exact congrArg Decoded.instr (decodeByte_idle_addressByte true a)
  | spiAddrWr a => exact congrArg Decoded.instr (decodeByte_idle_addressByte false a)
  | flWren arg => simp [encode, decode, (OpcodeRow.wren (opOf_commandWord arg _)).decodeWord_eq]
  | flExitcm arg => simp [encode, decode, (OpcodeRow.exitcm (opOf_commandWord arg _)).decodeWord_eq]
  | flRdid arg => simp [encode, decode, (OpcodeRow.rdid (opOf_commandWord arg _)).decodeWord_eq]
  | flRdsr arg => simp [encode, decode, (OpcodeRow.rdsr (opOf_commandWord arg P.opRdsr)).decodeWord_eq]
  | flUnimpl arg op =>
    have hop : implementedOpcode P (opOf (commandWord arg op)) = false := by simpa [Instr.wf] using hwf
    simp [encode, decode, (OpcodeRow.unimpl hop).decodeWord_eq]
  | spiDataRd | spiDataWr | wcmd | rdata | setacc | seten | getsens => rfl
  | csAssert j | csDeassert j | finish j | reset j => cases j <;> rfl

/-- A byte, in every phase, is the encoding of a well-formed instruction of that phase (R71, R72). -/
theorem decodeByte_encodes (P : Params) (ph : Phase) (b : Byte) :
    (decodeByte ph b).wf P = true ∧ (decodeByte ph b).phase = ph ∧ encode P (decodeByte ph b) = .byte b := by
  cases ph with
  | idle =>
    rw [← addressByte_fields b, decodeByte_idle_addressByte]
    cases rwOf b <;> exact ⟨rfl, rfl, rfl⟩
  | reading | writing => exact ⟨rfl, rfl, rfl⟩

/-- Settles O8: a byte by the phase it finds, a command word by its row of the opcode map. -/
theorem decodingDropsNoBit : Obligations.DecodingDropsNoBit :=
  fun P => ⟨decodeByte_encodes P, fun w => (opcodeRow_decodeWord P w).wf_and_encode_eq⟩

/-- The mask 0x000000FF compares a command word's opcode field alone (R74). -/
theorem and_opcodeMask_eq_iff {w : Word} {op : Byte} : w &&& 0x000000FF#32 = op.setWidth 32 ↔ opOf w = op := by
  have hmask : w &&& 0x000000FF#32 = (opOf w).setWidth 32 := by
    simpa using Laws.EncodingMatchesTable.commandWord_mask (argOf w) (opOf w)
  rw [hmask]
  constructor
  · intro h
    simpa using congrArg (BitVec.setWidth 8) h
  · exact congrArg (BitVec.setWidth 32)

/-- Settles O9: a masked comparison is the row's condition on the opcode field. -/
theorem opcodeMapReadsTheLowByteAlone : Obligations.OpcodeMapReadsTheLowByteAlone := by
  intro P w
  refine ⟨fun h => ?_, fun h => ?_, fun h => ?_, fun h => ?_, fun hwren hexitcm hrdid hrdsr => ?_⟩
  · exact (OpcodeRow.wren (and_opcodeMask_eq_iff.mp h)).decodeWord_eq
  · exact (OpcodeRow.exitcm (and_opcodeMask_eq_iff.mp h)).decodeWord_eq
  · exact (OpcodeRow.rdid (and_opcodeMask_eq_iff.mp h)).decodeWord_eq
  · exact (OpcodeRow.rdsr (and_opcodeMask_eq_iff.mp h)).decodeWord_eq
  · exact (OpcodeRow.unimpl (implementedOpcode_eq_false.mpr
      ⟨mt and_opcodeMask_eq_iff.mpr hwren, mt and_opcodeMask_eq_iff.mpr hexitcm,
        mt and_opcodeMask_eq_iff.mpr hrdid, mt and_opcodeMask_eq_iff.mpr hrdsr⟩)).decodeWord_eq

/-- Settles O10: the bytes by evaluation; the words by their rows, for every P_OP_RDSR where the opcode is another. -/
theorem wordsOfTheSpecDecodeToTheirRows : Obligations.WordsOfTheSpecDecodeToTheirRows := by
  refine ⟨by decide, by decide, by decide, by decide, by decide, rfl, rfl, fun P => ⟨?_, ?_, ?_⟩, ?_, ?_⟩
  · exact (OpcodeRow.wren (by decide)).decodeWord_eq
  · exact (OpcodeRow.exitcm (by decide)).decodeWord_eq
  · exact (OpcodeRow.rdid (by decide)).decodeWord_eq
  · exact (OpcodeRow.rdsr (by decide)).decodeWord_eq
  · exact (OpcodeRow.unimpl (by decide)).decodeWord_eq

end Sys2Proof
end

section
/-! What chip-select, FINISH and the address bytes do (R90 to R95), and what stops a byte that finds chip-select
deasserted (R93). -/

namespace Sys2Proof.Machine

/-- Settles O16: the assertion is the operation of R90, which sets `sel` and answers nothing. -/
theorem chipSelectAssertionOnlySelects : Obligations.ChipSelectAssertionOnlySelects := by
  intro s
  show Host.Outcome.next (s.onSensor assertSelect) = _
  rw [State.onSensor, assertSelect_eq]

/-- Settles O17: both instructions are the one deselection of SENSOR (R91, R92). -/
theorem deselectionDiscardsTheTransaction : Obligations.DeselectionDiscardsTheTransaction := by
  rintro i s (rfl | rfl) <;> exact ⟨_, _, rfl⟩

/-- Settles O18: a deselection of a deselected SENSOR moves only what it draws. -/
theorem finishIsDeselection : Obligations.FinishIsDeselection := by
  refine ⟨fun s => rfl, fun s t hcs => ?_⟩
  obtain rfl := Host.Outcome.next.inj hcs
  exact ⟨_, rfl, rfl⟩

/-- Settles O19: the selection check passes and the byte opens a Reading transaction. -/
theorem readAddressByteOpensReading : Obligations.ReadAddressByteOpensReading :=
  fun _ _ hsel _ => ⟨_, _, deliverByte_selected hsel⟩

/-- Settles O20: the selection check passes and the byte opens a Writing transaction. -/
theorem writeAddressByteOpensWriting : Obligations.WriteAddressByteOpensWriting :=
  fun _ _ hsel _ => ⟨_, _, deliverByte_selected hsel⟩

/-- Settles O53: each of the four rows stands behind the selection check. -/
theorem byteRowsFaultWhileDeselected : Obligations.ByteRowsFaultWhileDeselected :=
  fun _ hsel =>
    ⟨fun _ => ⟨deliverByte_unselected hsel, deliverByte_unselected hsel⟩,
      fun _ => ⟨deliverDataByte_unselected hsel, deliverDataByte_unselected hsel⟩⟩

end Sys2Proof.Machine
end

section
/-! A transaction over a run (R96, R98, R100): what keeps it open, and what restarts the decoding of bytes. -/

namespace Sys2Proof.Machine

/-- While a transaction is open, SENSOR's `phase` and `target` stay unless the event ends it (R96, R98). -/
theorem SensorStep.framer_kept {P : Params} {x y : Sensor} {e : SensorEvent} (h : SensorStep P x e y)
    (hopen : x.phase ≠ .idle) (hcs : e ≠ .cs false) (hfinish : e ≠ .finish) (hreset : e ≠ .reset) :
    y.phase = x.phase ∧ y.target = x.target := by
  by_contra hmoved
  obtain ⟨-, -, -, hidle⟩ | he | he | he := h.framer_moved (not_and_or.mp hmoved)
  · exact hopen hidle
  · exact hcs he
  · exact hfinish he
  · exact hreset he

@[simp] theorem takeFault_phase (i : Instance) (r : Fault) (s : State) :
    (takeFault i r s).sensor.phase = s.sensor.phase := by cases i <;> rfl

@[simp] theorem takeFault_target (i : Instance) (r : Fault) (s : State) :
    (takeFault i r s).sensor.target = s.sensor.target := by cases i <;> rfl

/-- An open transaction is kept by an event of either instance, whatever the outcome: a fault or a refusal moves no field
of the framer (R96, R98). -/
theorem afterStep_framer_kept {s : State} {e : HostEvent} {rest : List HostEvent} (hp : s.pending = e :: rest)
    (hopen : s.sensor.phase ≠ .idle)
    (he : e ≠ .sensor (.cs false) ∧ e ≠ .sensor .finish ∧ e ≠ .sensor .reset) :
    (afterStep s).sensor.phase = s.sensor.phase ∧ (afterStep s).sensor.target = s.sensor.target := by
  cases hstep : step s with
  | next t =>
    rw [afterStep_next hp hstep]
    obtain ⟨-, rfl⟩ | ⟨e', rest', hp', hsensor, -⟩ | ⟨e', rest', -, -, ht⟩ := step_next_by_event hstep
    · exact ⟨rfl, rfl⟩
    · obtain ⟨rfl, rfl⟩ : e = .sensor e' ∧ rest = rest' := by simpa [hp] using hp'
      obtain ⟨hcs, hfinish, hreset⟩ := he
      exact hsensor.framer_kept hopen (mt (congrArg HostEvent.sensor) hcs) (mt (congrArg HostEvent.sensor) hfinish)
        (mt (congrArg HostEvent.sensor) hreset)
    · rw [ht]; exact ⟨rfl, rfl⟩
  | fault r => simp [afterStep_fault hp hstep]
  | refused r => simp [afterStep_refused hp hstep]

/-- Settles O21: by induction on the events, each of which keeps the open transaction. -/
theorem transactionEndsOnlyByDeselectionOrReset : Obligations.TransactionEndsOnlyByDeselectionOrReset := by
  intro es
  induction es with
  | nil => exact fun s _ _ => ⟨rfl, rfl⟩
  | cons e es ih =>
    intro s hopen hes
    obtain ⟨he, hrest⟩ := List.forall_mem_cons.mp hes
    obtain ⟨hphase, htarget⟩ := afterStep_framer_kept (s := { s with pending := e :: es }) rfl hopen he
    obtain ⟨ihphase, ihtarget⟩ := ih (afterStep { s with pending := e :: es }) (hphase ▸ hopen) hrest
    rw [runEvents_final_cons]
    exact ⟨ihphase.trans hphase, ihtarget.trans htarget⟩

/-- What an address byte does to SENSOR, by its two fields (R71, R94, R95). -/
def takeAddress (b : Byte) : Sensor → Sensor := openTransaction (if rwOf b then .reading else .writing) (addrOf b)

section Run

variable {s : State} (hlive : s.sensor.faulted = none) (es : List HostEvent)
include hlive

theorem runEvents_deassertion :
    runEvents (.sensor (.cs false) :: es) s =
      ⟨none :: (runEvents es (s.onSensor deselect)).responses, (runEvents es (s.onSensor deselect)).final⟩ :=
  runEvents_sensor (f := deselect) hlive rfl

theorem runEvents_assertion :
    runEvents (.sensor (.cs true) :: es) s =
      ⟨none :: (runEvents es (s.onSensor assertSelect)).responses, (runEvents es (s.onSensor assertSelect)).final⟩ := by
  rw [runEvents_sensor (f := assertSelect) hlive rfl, assertSelect_response]

/-- A byte that finds SENSOR selected and Idle is an address byte (R93). -/
theorem runEvents_addressByte (b : Byte) (hsel : s.sensor.sel = true) (hidle : s.sensor.phase = .idle) :
    runEvents (.sensor (.xfer b) :: es) s =
      ⟨some (.byte (Config.freeByte s.sensor.draws)) :: (runEvents es (s.onSensor (takeAddress b))).responses,
        (runEvents es (s.onSensor (takeAddress b))).final⟩ := by
  refine runEvents_sensor (f := takeAddress b) hlive ?_
  rw [hidle]
  exact (exec_decodeByte_idle b _).trans (deliverByte_selected hsel)

end Run

/-- Settles O22: the deselection leaves Idle, the assertion selects and stays there, so the byte is an address byte. -/
theorem reselectionRestartsDecoding : Obligations.ReselectionRestartsDecoding := by
  intro s b hlive
  refine ⟨Config.freeByte (s.sensor.draws + 1), s.sensor.draws + 2, ?_⟩
  rw [runEvents_deassertion hlive, runEvents_assertion (s := s.onSensor deselect) hlive,
    runEvents_addressByte (by simpa using hlive) [] b (by simp) (by simp), runEvents_nil]
  rfl

end Sys2Proof.Machine
end

section
/-! The faults of a step (R93, R97, R160): a byte that finds chip-select deasserted is the one event by which a step of
an unmarked SENSOR or FLASH faults. -/

namespace Sys2Proof.Machine

variable {s : State} {r : Fault}

theorem deliverByte_fault_iff {b : Byte} {f : Sensor → Sensor} :
    deliverByte b f s = .fault r ↔ s.sensor.sel = false ∧ r = .unselectedByte b := by
  cases hsel : s.sensor.sel with
  | true => simp [hsel]
  | false => simp [hsel, eq_comm]

/-- A data byte that does not find the framer Idle meets the selection check alone. -/
theorem deliverDataByte_eq_deliverByte (b : Byte) (f : Sensor → Sensor) (hopen : s.sensor.phase ≠ .idle) :
    deliverDataByte b f s = deliverByte b f s :=
  if_neg fun h => hopen h.2

/-- A byte run by the row it decodes to in the phase it finds meets the selection check alone: a data byte's row is
reached only outside Idle (R72, R97). -/
theorem exec_decodeByte_eq_deliverByte (b : Byte) (s : State) :
    ∃ f, exec (decodeByte s.sensor.phase b) s = deliverByte b f s := by
  cases hph : s.sensor.phase with
  | idle => exact ⟨_, exec_decodeByte_idle b s⟩
  | reading | writing => exact ⟨_, deliverDataByte_eq_deliverByte b _ (by simp [hph])⟩

theorem exec_sensorEvent_fault_iff {e : SensorEvent} :
    exec (decodeSensorEvent s.sensor.phase e) s = .fault r ↔
      ∃ b, e = .xfer b ∧ s.sensor.sel = false ∧ r = .unselectedByte b := by
  cases e with
  | xfer b =>
    obtain ⟨f, hf⟩ := exec_decodeByte_eq_deliverByte b s
    rw [decodeSensorEvent, hf, deliverByte_fault_iff]
    simp
  | cs level => cases level <;> exact ⟨nofun, nofun⟩
  | finish | setacc | seten | getsens | reset => exact ⟨nofun, nofun⟩

/-- Settles O51: the step of a live SENSOR runs the event's instruction. -/
theorem sensorFaultsExactlyOnAnUnselectedByte : Obligations.SensorFaultsExactlyOnAnUnselectedByte := by
  intro s e rest hp hlive r
  rw [step_run hp hlive rfl]
  exact exec_sensorEvent_fault_iff (s := { s with pending := rest })

/-- No event of a live FLASH faults (R160). -/
theorem step_flash_not_fault {e : FlashEvent} {rest : List HostEvent} (hp : s.pending = .flash e :: rest)
    (hlive : s.flash.faulted = none) : step s ≠ .fault r := by
  cases hd : decodeFlashEvent Config.params e with
  | reject q => rw [step_rejected hp hlive hd]; nofun
  | instr i =>
    rw [step_run hp hlive hd]
    obtain ⟨g, hnext⟩ | hrefused := exec_flashEvent_cases hd
    · rw [hnext]; nofun
    · rw [hrefused]; nofun

/-- Everything a step that faults can be: an instance faulted before answers its fault again, or SENSOR, live and
deselected, meets a byte (R93, R162). -/
theorem step_fault_cases (h : step s = .fault r) :
    (∃ k, s.faultOf k = some r) ∨
    (∃ b rest, s.pending = .sensor (.xfer b) :: rest ∧ s.sensor.sel = false ∧ r = .unselectedByte b) := by
  cases hp : s.pending with
  | nil => rw [step_no_event hp] at h; cases h
  | cons e rest =>
    cases hf : s.faultOf e.target with
    | some q => rw [step_dead hp hf] at h; cases h; exact .inl ⟨_, hf⟩
    | none =>
      cases e with
      | sensor e =>
        obtain ⟨b, rfl, hsel, hr⟩ := (sensorFaultsExactlyOnAnUnselectedByte s e rest hp hf r).mp h
        exact .inr ⟨b, rest, rfl, hsel, hr⟩
      | flash e => exact absurd h (step_flash_not_fault hp hf)

/-- Settles O52: the data rows check for Idle, but a step faults only with an earlier fault or F_UNSELECTED_BYTE. -/
theorem idleDataIsUnreachable : Obligations.IdleDataIsUnreachable := by
  refine ⟨fun d s hsel hidle => ⟨deliverDataByte_idle hsel hidle, deliverDataByte_idle hsel hidle⟩,
    fun s b hsensor hflash hstep => ?_⟩
  obtain ⟨k, hk⟩ | ⟨_, _, -, -, hr⟩ := step_fault_cases hstep
  · cases k with
    | sensor => exact hsensor hk
    | flash => exact hflash hk
  · cases hr

end Sys2Proof.Machine
end

section
/-! The rows a byte and a command word run (R93, R140). -/

namespace Sys2Proof.Machine

/-- Every opcode but WriteEnable's and ExitContinuousMode's does nothing beyond the record (R143 to R145). -/
theorem opcodeEffect_eq_id {P : Params} {op : Byte} (hwren : op ≠ Literal.opWren) (hexitcm : op ≠ Literal.opExitcm) :
    opcodeEffect P op = id := by
  funext f
  obtain ⟨hop, -⟩ | hkept := opcodeEffect_cases P op f
  · exact absurd hop (not_or.mpr ⟨hwren, hexitcm⟩)
  · exact hkept

/-- WCMD does for any word what the word's row of the opcode map does (R140). -/
theorem exec_wcmd_eq_row {w : Word} {i : Instr} (h : OpcodeRow Config.params w i) (s : State) :
    exec (.wcmd w) s = exec i s := by
  have hwcmd : exec (.wcmd w) s = command w (opcodeEffect Config.params (opOf w)) s := rfl
  rw [hwcmd]
  cases h with
  | wren hop =>
    have heffect : opcodeEffect Config.params (opOf w) = writeEnable := by rw [hop]; rfl
    rw [exec_flWren, ← hop, commandWord_fields, heffect]
  | exitcm hop =>
    have heffect : opcodeEffect Config.params (opOf w) = exitContinuousMode := by rw [hop]; rfl
    rw [exec_flExitcm, ← hop, commandWord_fields, heffect]
  | rdid hop =>
    rw [exec_flRdid, ← hop, commandWord_fields, opcodeEffect_eq_id (by rw [hop]; decide) (by rw [hop]; decide)]
  | rdsr hop =>
    obtain ⟨hwren, hexitcm, -⟩ := Config.params.opRdsr_distinct
    rw [exec_flRdsr, ← hop, commandWord_fields, opcodeEffect_eq_id (hop ▸ hwren) (hop ▸ hexitcm)]
  | unimpl hop =>
    obtain ⟨hwren, hexitcm, -⟩ := implementedOpcode_eq_false.mp hop
    rw [exec_flUnimpl, commandWord_fields, opcodeEffect_eq_id hwren hexitcm]

/-- Settles O12: a byte decodes to its row in the phase it finds; a command write is WCMD, which does what the word's
row does. -/
theorem bytesAndWordsRunTheirRows : Obligations.BytesAndWordsRunTheirRows := by
  refine fun s rest => ⟨fun b hp hlive => step_run hp hlive rfl, fun w hp hlive => ?_⟩
  rw [step_run hp hlive rfl]
  exact exec_wcmd_eq_row (opcodeRow_decodeWord Config.params w) _

end Sys2Proof.Machine
end

section
/-! What each address reads as (R28, R54, R112), and on what an OUT register depends (R115, R116, R122). -/

namespace Sys2Proof.Machine

/-- An OUT register reads as its half of the axis's raw code (R112, R116). -/
theorem sregRead_out (P : Params) (a : Axis) (h : Half) (s : Sensor) :
    sregRead P (P.addr (.out a h)) s = halfOf h (rawCode P a s) := sregRead_addr P (.out a h) s

/-- The two OUT registers of an axis make up its raw code (R54). -/
theorem sregRead_out_append (P : Params) (a : Axis) (s : Sensor) :
    (sregRead P (P.addr (.out a .high)) s ++ sregRead P (P.addr (.out a .low)) s : BitVec 16) = rawCode P a s := by
  rw [sregRead_out, sregRead_out]
  exact halves_append _

/-- A raw code depends on its axis value and on FS alone (R116). -/
theorem rawCode_congr {P : Params} {s s' : Sensor} {a : Axis} (haxis : s.axis.get a = s'.axis.get a)
    (hfs : fullScale P s.ctrl5 = fullScale P s'.ctrl5) : rawCode P a s = rawCode P a s' := by
  rw [rawCode, rawCode, sensitivity, sensitivity, haxis, hfs]

/-- Settles O25: an address of the map reads as its register, any other as 0x00. -/
theorem everyAddressReadsAsItsRegister : Obligations.EveryAddressReadsAsItsRegister := by
  intro P s
  refine ⟨sregRead_addr P _ s, sregRead_addr P _ s, sregRead_addr P _ s, sregRead_addr P _ s, fun a => ?_,
    fun a hunmapped => sregRead_unmapped hunmapped s⟩
  exact ⟨sregRead_out P a .low s, sregRead_out P a .high s⟩

/-- Settles O36: the two sensors have the same raw code of the axis. -/
theorem outputsDependOnAxisAndFullScaleAlone : Obligations.OutputsDependOnAxisAndFullScaleAlone := by
  intro P s s' a haxis hfs h
  rw [sregRead_out, sregRead_out, rawCode_congr haxis hfs]

/-- FS = 0 selects 2 mg/LSB, the one entry of the table that the spec fixes (R32). -/
theorem sensitivity_of_fullScale_zero {P : Params} {s : Sensor} (hfs : fullScale P s.ctrl5 = 0) :
    sensitivity P s = Literal.sens0 := by
  rw [sensitivity, hfs, P.sens_zero]

/-- FS is 0 in CTRL5's reset value, wherever the field stands (R26, R115). -/
theorem fullScale_ctrl5Reset (P : Params) : fullScale P Literal.ctrl5Reset = 0 := BitVec.extractLsb'_zero

/-- Settles O35: `Sens()` is the table entry of FS by definition, and GETSENS answers it; FS is 0 at reset. -/
theorem sensitivityIsSelectedByFullScale : Obligations.SensitivityIsSelectedByFullScale :=
  have hreset := fullScale_ctrl5Reset Config.params
  ⟨fun _ => rfl, hreset, fun _ => rfl, sensitivity_of_fullScale_zero (s := State.reset.sensor) hreset⟩

end Sys2Proof.Machine
end

section
/-! The stimulus events SETACC, SETEN and GETSENS (R117 to R119, R121, R124). -/

namespace Sys2Proof.Machine

/-- Settles O38: the range check of R118 passes or fails on D20's bounds. -/
theorem setAccelerationStoresInRangeValuesOnly : Obligations.SetAccelerationStoresInRangeValuesOnly := by
  intro a v s
  constructor
  · intro hmin hmax
    refine ⟨s.sensor.axis.set a v, axis_get_set_same _ a v, fun b hb => axis_get_set_other _ v hb, ?_⟩
    rw [exec_setacc, State.onSensor, setAccel_eq, if_pos ⟨hmin, hmax⟩]
  · intro hout
    have hrejected : ¬ (Literal.accelMin ≤ v ∧ v ≤ Literal.accelMax) :=
      fun ⟨hmin, hmax⟩ => hout.elim (not_lt_of_ge hmin) (not_lt_of_ge hmax)
    rw [exec_setacc, State.onSensor, setAccel_eq, if_neg hrejected]

/-- Settles O39: CTRL4 is as `setBit` leaves it, bit by bit. -/
theorem setEnableWritesOneBitAndRecomputes : Obligations.SetEnableWritesOneBitAndRecomputes :=
  fun _ _ _ =>
    ⟨_, (setBit_getLsbD _ _ _ _).trans (if_pos rfl), fun _ hk => (setBit_getLsbD _ _ _ _).trans (if_neg hk), rfl⟩

/-- (E3) of R117 in codes: 0.002 g is one LSB at 2 mg/LSB, so a code that decodes so near to 1.0 g is within one LSB of
500. -/
theorem within_one_lsb_of_decodeRaw {raw : Raw} (h : |decodeRaw raw Literal.sens0 - 1| ≤ mkRat 2 1000) :
    499 ≤ raw.toInt ∧ raw.toInt ≤ 501 := by
  have hlsb : |(raw.toInt : Rat) * 2 / 1000 - 1| ≤ 2 / 1000 := by
    rw [Rat.mkRat_eq_div] at h
    exact h
  obtain ⟨hlow, hhigh⟩ := abs_le.mp hlsb
  have h499 : ((499 : Int) : Rat) ≤ raw.toInt := by push_cast; linarith
  have h501 : (raw.toInt : Rat) ≤ (501 : Int) := by push_cast; linarith
  exact ⟨Int.cast_le.mp h499, Int.cast_le.mp h501⟩

/-- An axis that holds 1.0 g at FS = 0 reads within one LSB of 500: its OUT registers make up its code, which (E3)
bounds. -/
theorem sregRead_out_one_gravity {P : Params} {a : Axis} {x : Sensor} (hfs : fullScale P x.ctrl5 = 0)
    (haxis : x.axis.get a = 1) :
    499 ≤ (sregRead P (P.addr (.out a .high)) x ++ sregRead P (P.addr (.out a .low)) x : BitVec 16).toInt ∧
      (sregRead P (P.addr (.out a .high)) x ++ sregRead P (P.addr (.out a .low)) x : BitVec 16).toInt ≤ 501 := by
  rw [sregRead_out_append, rawCode, sensitivity_of_fullScale_zero hfs, haxis]
  exact within_one_lsb_of_decodeRaw P.encode_roundTrip

/-- Settles O37: 1.0 g is in range, so SETACC stores it, and CTRL5 stays. -/
theorem oneGravityReadsWithinOneLsb : Obligations.OneGravityReadsWithinOneLsb := by
  intro a s hfs
  obtain ⟨w, haxis, -, hexec⟩ := (setAccelerationStoresInRangeValuesOnly a 1 s).1 (by decide) (by decide)
  exact ⟨_, hexec, sregRead_out_one_gravity hfs haxis⟩

/-- SENSOR with another framer. -/
def Sensor.reframe (sel : Bool) (phase : Phase) (target : Addr7) (x : Sensor) : Sensor :=
  { x with sel := sel, phase := phase, target := target }

/-- An operation that neither reads nor writes the framer: it commutes with replacing it. -/
def IgnoresFramer (f : Sensor → Sensor) : Prop :=
  ∀ sel phase target x, f (x.reframe sel phase target) = (f x).reframe sel phase target

theorem setAccel_ignoresFramer (a : Axis) (v : Rat) : IgnoresFramer (setAccel a v) := by
  intro sel phase target x
  simp only [setAccel_eq, Sensor.reframe]

theorem setEnable_ignoresFramer (P : Params) (a : Axis) (e : Bool) : IgnoresFramer (setEnable P a e) :=
  fun _ _ _ _ => rfl

theorem getSensitivity_ignoresFramer (P : Params) : IgnoresFramer (getSensitivity P) := fun _ _ _ _ => rfl

/-- What an operation that ignores the framer leaves of it: replacing the framer by itself shows that it is kept. -/
theorem IgnoresFramer.kept {f : Sensor → Sensor} (h : IgnoresFramer f) (x : Sensor) :
    (f x).sel = x.sel ∧ (f x).phase = x.phase ∧ (f x).target = x.target := by
  have hself : f x = (f x).reframe x.sel x.phase x.target := h x.sel x.phase x.target x
  exact ⟨(congrArg Sensor.sel hself :), (congrArg Sensor.phase hself :), (congrArg Sensor.target hself :)⟩

/-- Each of the three stimulus instructions acts on SENSOR, by an operation that ignores the framer (R124). -/
theorem exec_stimulus {i : Instr} (hi : (∃ a v, i = .setacc a v) ∨ (∃ a e, i = .seten a e) ∨ i = .getsens) :
    ∃ f, IgnoresFramer f ∧ ∀ s, exec i s = .next (s.onSensor f) := by
  obtain ⟨a, v, rfl⟩ | ⟨a, e, rfl⟩ | rfl := hi
  · exact ⟨_, setAccel_ignoresFramer a v, exec_setacc (a := a) (v := v)⟩
  · exact ⟨_, setEnable_ignoresFramer Config.params a e, exec_seten (a := a) (e := e)⟩
  · exact ⟨_, getSensitivity_ignoresFramer Config.params, exec_getsens⟩

/-- Settles O40: the operation keeps the framer, and commutes with replacing it. -/
theorem stimulusIgnoresTheFramer : Obligations.StimulusIgnoresTheFramer := by
  intro i s hi
  obtain ⟨f, hf, hexec⟩ := exec_stimulus hi
  obtain ⟨hsel, hphase, htarget⟩ := hf.kept s.sensor
  refine ⟨_, hexec s, hsel, hphase, htarget, fun sel phase target => ?_⟩
  rw [hexec]
  exact congrArg (fun x => Host.Outcome.next { s with sensor := x }) (hf sel phase target s.sensor)

end Sys2Proof.Machine
end

section
/-! The data bytes of a transaction, one at a time (R110, R111, R113), and the recomputed flags (R114). -/

namespace Sys2Proof.Machine

section DataWrite

variable (P : Params) (d : Byte) (x : Sensor)

@[simp] theorem dataWrite_sel : (dataWrite P d x).sel = x.sel := by rw [dataWrite_eq]
@[simp] theorem dataWrite_phase : (dataWrite P d x).phase = x.phase := by rw [dataWrite_eq]
@[simp] theorem dataWrite_target : (dataWrite P d x).target = x.target := by rw [dataWrite_eq]
@[simp] theorem dataWrite_faulted : (dataWrite P d x).faulted = x.faulted := by rw [dataWrite_eq]
@[simp] theorem dataWrite_ctrl4 :
    (dataWrite P d x).ctrl4 = if x.target = P.addr .ctrl4 then d else x.ctrl4 := by rw [dataWrite_eq]
@[simp] theorem dataWrite_ctrl5 :
    (dataWrite P d x).ctrl5 = if x.target = P.addr .ctrl5 then d else x.ctrl5 := by rw [dataWrite_eq]

end DataWrite

section DataByte

variable {s : State} (d : Byte) (hsel : s.sensor.sel = true)
include hsel

/-- A data byte of a Reading transaction runs (R110). -/
theorem exec_spiDataRd_reading (hreading : s.sensor.phase = .reading) :
    exec (.spiDataRd d) s = .next (s.onSensor (dataRead Config.params)) :=
  deliverDataByte_open hsel (by simp [hreading])

/-- A data byte of a Writing transaction runs (R111). -/
theorem exec_spiDataWr_writing (hwriting : s.sensor.phase = .writing) :
    exec (.spiDataWr d) s = .next (s.onSensor (dataWrite Config.params d)) :=
  deliverDataByte_open hsel (by simp [hwriting])

end DataByte

/-- Settles O24: the byte runs, and its operation answers the target's register. -/
theorem dataByteInReadingAnswersTheTarget : Obligations.DataByteInReadingAnswersTheTarget :=
  fun d _ hsel hreading => exec_spiDataRd_reading d hsel hreading

/-- Settles O27: the byte runs, and `dataWrite_eq` says what its operation moves. -/
theorem dataByteInWritingStoresAndRecomputes : Obligations.DataByteInWritingStoresAndRecomputes := by
  intro d s hsel hwriting
  have hexec := exec_spiDataWr_writing d hsel hwriting
  rw [State.onSensor, dataWrite_eq] at hexec
  exact ⟨_, _, _, fun h => if_pos h, fun h => if_neg h, hexec⟩

section DataAvailable

variable {P : Params} {c : Byte}

/-- RATE is 0 exactly when its field holds no set bit (R25). -/
theorem rate_eq_zero_iff : rate P c = 0 ↔ c.extractLsb' P.ctrl4.rateLo P.ctrl4.rateWidth = 0 :=
  BitVec.toNat_eq (y := 0#_).symm

/-- `DA` in power-down (R114). -/
theorem dataAvailable_powerDown (hrate : rate P c = 0) : dataAvailable P c = ⟨false, false, false, false⟩ :=
  if_pos hrate

theorem enabled_all_iff : (enabled P .x c && enabled P .y c && enabled P .z c) = true ↔
    enabled P .x c = true ∧ enabled P .y c = true ∧ enabled P .z c = true := by
  rw [Bool.and_eq_true, Bool.and_eq_true, and_assoc]

/-- `DA` with every axis enabled (R114). -/
theorem dataAvailable_combined (hrate : rate P c ≠ 0)
    (hall : enabled P .x c = true ∧ enabled P .y c = true ∧ enabled P .z c = true) :
    dataAvailable P c = ⟨false, false, false, true⟩ :=
  (if_neg hrate).trans (if_pos (enabled_all_iff.mpr hall))

/-- `DA` otherwise (R114). -/
theorem dataAvailable_perAxis (hrate : rate P c ≠ 0)
    (hall : ¬ (enabled P .x c = true ∧ enabled P .y c = true ∧ enabled P .z c = true)) :
    dataAvailable P c = ⟨enabled P .x c, enabled P .y c, enabled P .z c, false⟩ :=
  (if_neg hrate).trans (if_neg (mt enabled_all_iff.mp hall))

end DataAvailable

/-- A write data byte or SETEN leaves STATUS recomputed from the CTRL4 it leaves (R111, R119). -/
theorem status_after_write {i : Instr} {s t : State} (hi : (∃ d, i = .spiDataWr d) ∨ (∃ a e, i = .seten a e))
    (hexec : exec i s = .next t) :
    t.sensor.status = recomputed Config.params t.sensor.ctrl4 s.sensor.status := by
  obtain ⟨d, rfl⟩ | ⟨a, e, rfl⟩ := hi
  · obtain ⟨-, -, rfl⟩ := deliverDataByte_next hexec
    rw [onSensor_sensor, dataWrite_eq]
  · obtain rfl := Host.Outcome.next.inj hexec
    rfl

/-- Settles O28: the flags are those of the recomputation, which are DA of the CTRL4 that the write leaves. -/
theorem flagsFollowControlFourAfterEveryWrite : Obligations.FlagsFollowControlFourAfterEveryWrite := by
  intro i s t hi hexec c L rateField all f
  have hstatus := status_after_write hi hexec
  have hflags : f = dataAvailable Config.params c :=
    (congrArg (flagsOf Config.params) hstatus).trans (flagsOf_recomputed ..)
  refine ⟨fun h0 => ?_, fun h0 hall => ?_, fun h0 hall => ?_, fun k hk => ?_⟩
  · exact hflags.trans (dataAvailable_powerDown (rate_eq_zero_iff.mpr h0))
  · exact hflags.trans (dataAvailable_combined (mt rate_eq_zero_iff.mp h0) hall)
  · exact hflags.trans (dataAvailable_perAxis (mt rate_eq_zero_iff.mp h0) hall)
  · rw [hstatus, recomputed_other _ _ hk]

end Sys2Proof.Machine
end

section
/-! Data bytes over a run: bursts (R120), and a write transaction followed by a read transaction (R111 to R113). -/

namespace Sys2Proof.Machine

section Run

variable {s : State} (hlive : s.sensor.faulted = none) (hsel : s.sensor.sel = true) (b : Byte) (es : List HostEvent)
include hlive hsel

/-- A byte that finds a Reading transaction answers the target's register (R110). -/
theorem runEvents_readByte (hreading : s.sensor.phase = .reading) :
    runEvents (.sensor (.xfer b) :: es) s =
      ⟨some (.byte (sregRead Config.params s.sensor.target s.sensor)) ::
          (runEvents es (s.onSensor (dataRead Config.params))).responses,
        (runEvents es (s.onSensor (dataRead Config.params))).final⟩ := by
  refine runEvents_sensor (f := dataRead Config.params) hlive ?_
  rw [hreading]
  exact exec_spiDataRd_reading (s := { s with pending := es }) b hsel hreading

/-- A byte that finds a Writing transaction is stored, and answers a drawn byte (R111). -/
theorem runEvents_writeByte (hwriting : s.sensor.phase = .writing) :
    ∃ r : Byte, runEvents (.sensor (.xfer b) :: es) s =
      ⟨some (.byte r) :: (runEvents es (s.onSensor (dataWrite Config.params b))).responses,
        (runEvents es (s.onSensor (dataWrite Config.params b))).final⟩ := by
  refine ⟨_, runEvents_sensor (f := dataWrite Config.params b) hlive ?_⟩
  rw [hwriting]
  exact exec_spiDataWr_writing (s := { s with pending := es }) b hsel hwriting

end Run

section Burst

/-- The events that deliver the bytes `ds` to SENSOR. -/
def burst (ds : List Byte) : List HostEvent := ds.map fun d => .sensor (.xfer d)

theorem burst_cons (d : Byte) (ds : List Byte) : burst (d :: ds) = .sensor (.xfer d) :: burst ds := rfl

/-- A burst ends no transaction (R98). -/
theorem burst_keeps_framer (ds : List Byte) {s : State} (hopen : s.sensor.phase ≠ .idle) :
    (runEvents (burst ds) s).final.sensor.phase = s.sensor.phase ∧
      (runEvents (burst ds) s).final.sensor.target = s.sensor.target := by
  refine transactionEndsOnlyByDeselectionOrReset (burst ds) s hopen fun e he => ?_
  obtain ⟨d, -, rfl⟩ := List.mem_map.mp he
  simp

/-- Every byte of a read burst answers the one register, which no read moves (R57, R110). -/
theorem readBurst_responses (ds : List Byte) : ∀ s : State, s.sensor.faulted = none → s.sensor.sel = true →
    s.sensor.phase = .reading →
    (runEvents (burst ds) s).responses =
      List.replicate ds.length (some (.byte (sregRead Config.params s.sensor.target s.sensor))) := by
  induction ds with
  | nil => exact fun _ _ _ _ => rfl
  | cons d ds ih =>
    intro s hlive hsel hreading
    have hsame : sregRead Config.params s.sensor.target (dataRead Config.params s.sensor) =
        sregRead Config.params s.sensor.target s.sensor := sregRead_congr rfl rfl rfl rfl _
    have htail := ih (s.onSensor (dataRead Config.params)) hlive hsel hreading
    rw [burst_cons, runEvents_readByte hlive hsel d _ hreading, List.length_cons, List.replicate_succ, ← hsame]
    exact congrArg _ htail

/-- Every byte of a write burst goes to the one register, the last one winning (R113). -/
theorem writeBurst_controls (ds : List Byte) : ∀ s : State, s.sensor.faulted = none → s.sensor.sel = true →
    s.sensor.phase = .writing →
    (runEvents (burst ds) s).final.sensor.ctrl4 =
      (if s.sensor.target = Config.params.addr .ctrl4 then ds.getLastD s.sensor.ctrl4 else s.sensor.ctrl4) ∧
    (runEvents (burst ds) s).final.sensor.ctrl5 =
      (if s.sensor.target = Config.params.addr .ctrl5 then ds.getLastD s.sensor.ctrl5 else s.sensor.ctrl5) := by
  induction ds with
  | nil => exact fun _ _ _ _ => ⟨(ite_self _).symm, (ite_self _).symm⟩
  | cons d ds ih =>
    intro s hlive hsel hwriting
    obtain ⟨r, hrun⟩ := runEvents_writeByte hlive hsel d (burst ds) hwriting
    obtain ⟨h4, h5⟩ := ih (s.onSensor (dataWrite Config.params d)) (by simpa using hlive) (by simpa using hsel)
      (by simpa using hwriting)
    simp only [onSensor_sensor, dataWrite_target, dataWrite_ctrl4, dataWrite_ctrl5] at h4 h5
    rw [burst_cons, hrun, List.getLastD_cons, List.getLastD_cons, h4, h5]
    constructor <;> split_ifs <;> rfl

/-- Settles O29: a burst keeps the open transaction, and every byte of it goes to the register addressed. -/
theorem burstsStayOnOneRegister : Obligations.BurstsStayOnOneRegister := by
  intro ds s hlive hsel
  constructor
  · intro hreading
    obtain ⟨hphase, htarget⟩ := burst_keeps_framer ds (s := s) (by simp [hreading])
    exact ⟨readBurst_responses ds s hlive hsel hreading, hphase.trans hreading, htarget⟩
  · intro hwriting
    obtain ⟨hphase, htarget⟩ := burst_keeps_framer ds (s := s) (by simp [hwriting])
    obtain ⟨h4, h5⟩ := writeBurst_controls ds s hlive hsel hwriting
    exact ⟨h4, h5, hphase.trans hwriting, htarget⟩

end Burst

section Transaction

/-- What an assertion followed by the address byte `rw`, `a` does to SENSOR: a transaction opens (R90, R94, R95). -/
def startTransaction (rw : Bool) (a : Addr7) (x : Sensor) : Sensor :=
  takeAddress (addressByte rw a) (assertSelect x)

/-- What a one-byte write transaction does to SENSOR. -/
def writeOnce (a : Addr7) (v : Byte) (x : Sensor) : Sensor :=
  deselect (dataWrite Config.params v (startTransaction false a x))

/-- What a one-byte read transaction does to SENSOR. -/
def readOnce (a : Addr7) (x : Sensor) : Sensor := deselect (dataRead Config.params (startTransaction true a x))

section Effect

variable (rw : Bool) (a : Addr7) (v : Byte) (x : Sensor)

theorem startTransaction_eq :
    startTransaction rw a x =
      { x with
        sel := true
        phase := if rw then .reading else .writing
        target := a
        response := some (.byte (Config.freeByte x.draws))
        draws := x.draws + 1 } := by
  rw [startTransaction, takeAddress, rwOf_addressByte, addrOf_addressByte, assertSelect_eq]
  rfl

@[simp] theorem startTransaction_sel : (startTransaction rw a x).sel = true := by rw [startTransaction_eq]
@[simp] theorem startTransaction_phase :
    (startTransaction rw a x).phase = if rw then .reading else .writing := by rw [startTransaction_eq]
@[simp] theorem startTransaction_target : (startTransaction rw a x).target = a := by rw [startTransaction_eq]
@[simp] theorem startTransaction_faulted : (startTransaction rw a x).faulted = x.faulted := by rw [startTransaction_eq]

/-- Opening a transaction moves no register (R94, R95). -/
@[simp] theorem sregRead_startTransaction (P : Params) (k : Addr7) :
    sregRead P k (startTransaction rw a x) = sregRead P k x := by
  rw [startTransaction_eq]
  exact sregRead_congr rfl rfl rfl rfl k

@[simp] theorem writeOnce_faulted : (writeOnce a v x).faulted = x.faulted := by simp [writeOnce]

@[simp] theorem readOnce_faulted : (readOnce a x).faulted = x.faulted := by simp [readOnce, dataRead]

/-- CTRL4 and CTRL5 hold what a write transaction to them wrote (R113). -/
theorem sregRead_writeOnce {r : SReg} (hr : r = .ctrl4 ∨ r = .ctrl5) :
    sregRead Config.params (Config.params.addr r) (writeOnce (Config.params.addr r) v x) = v := by
  obtain rfl | rfl := hr <;> simp [writeOnce, readReg]

end Effect

section Run

variable {s : State} (hlive : s.sensor.faulted = none) (hidle : s.sensor.phase = .idle) (a : Addr7) (es : List HostEvent)
include hlive hidle

/-- An assertion and an address byte open a transaction (R90, R94, R95). -/
theorem runEvents_startTransaction (rw : Bool) : ∃ b : Byte,
    runEvents (.sensor (.cs true) :: .sensor (.xfer (addressByte rw a)) :: es) s =
      ⟨none :: some (.byte b) :: (runEvents es (s.onSensor (startTransaction rw a))).responses,
        (runEvents es (s.onSensor (startTransaction rw a))).final⟩ := by
  refine ⟨Config.freeByte (assertSelect s.sensor).draws, ?_⟩
  rw [runEvents_assertion hlive,
    runEvents_addressByte (by simpa using hlive) es (addressByte rw a) (by simp) (by simpa using hidle)]
  rfl

theorem runEvents_spiWrite_one (v : Byte) : ∃ b1 b2 : Byte,
    runEvents (spiWrite a [v] ++ es) s =
      ⟨none :: some (.byte b1) :: some (.byte b2) :: none :: (runEvents es (s.onSensor (writeOnce a v))).responses,
        (runEvents es (s.onSensor (writeOnce a v))).final⟩ := by
  obtain ⟨b1, hstart⟩ := runEvents_startTransaction hlive hidle a (.sensor (.xfer v) :: .sensor (.cs false) :: es) false
  obtain ⟨b2, hwrite⟩ := runEvents_writeByte (s := s.onSensor (startTransaction false a)) (by simpa using hlive)
    (by simp) v (.sensor (.cs false) :: es) (by simp)
  refine ⟨b1, b2, hstart.trans ?_⟩
  rw [hwrite, runEvents_deassertion (by simpa using hlive)]
  rfl

theorem runEvents_spiRead_one : ∃ b : Byte,
    runEvents (spiRead a 1 ++ es) s =
      ⟨none :: some (.byte b) :: some (.byte (sregRead Config.params a s.sensor)) :: none ::
          (runEvents es (s.onSensor (readOnce a))).responses,
        (runEvents es (s.onSensor (readOnce a))).final⟩ := by
  obtain ⟨b, hstart⟩ :=
    runEvents_startTransaction hlive hidle a (.sensor (.xfer 0x00#8) :: .sensor (.cs false) :: es) true
  have hread := runEvents_readByte (s := s.onSensor (startTransaction true a)) (by simpa using hlive)
    (by simp) 0x00#8 (.sensor (.cs false) :: es) (by simp)
  rw [onSensor_sensor, startTransaction_target, sregRead_startTransaction] at hread
  refine ⟨b, hstart.trans ?_⟩
  rw [hread, runEvents_deassertion (by simpa [dataRead] using hlive)]
  rfl

end Run

/-- Settles O30: the write transaction ends Idle with the byte in its register, which the read transaction answers. -/
theorem controlRegistersReadBackWhatWasWritten : Obligations.ControlRegistersReadBackWhatWasWritten := by
  intro r v s hr hlive hidle
  let addr := Config.params.addr r
  obtain ⟨b1, b2, hwrite⟩ := runEvents_spiWrite_one hlive hidle addr (spiRead addr 1) v
  obtain ⟨b3, hread⟩ := runEvents_spiRead_one (s := s.onSensor (writeOnce addr v)) (by simpa using hlive) rfl addr []
  rw [List.append_nil, onSensor_sensor, sregRead_writeOnce _ _ hr] at hread
  refine ⟨b1, b2, b3, ?_⟩
  rw [hwrite, hread]
  exact ⟨rfl, by simpa [runEvents_nil] using hlive, rfl⟩

end Transaction

end Sys2Proof.Machine
end

section
/-! What a command word and a read-data access do to FLASH (R140 to R147), each as an equation. -/

namespace Sys2Proof

/-- A command word whose upper bits are clear is written by its opcode alone (R82). -/
@[simp] theorem opOf_setWidth (op : Byte) : opOf (op.setWidth 32) = op := by
  rw [opOf, BitVec.extractLsb'_setWidth_of_le (by decide), BitVec.extractLsb'_eq_self]

end Sys2Proof

namespace Sys2Proof.Machine

section Status

/-- The status register after a command of opcode `op` that finds it holding `st` (R141 to R145). -/
def commandStatus (op st : Byte) : Byte :=
  if op = Literal.opWren then withWel st else if op = Literal.opExitcm then Literal.fstatusReset else st

variable {op : Byte} (st : Byte)

@[simp] theorem commandStatus_opWren : commandStatus Literal.opWren st = withWel st := rfl

@[simp] theorem commandStatus_opExitcm : commandStatus Literal.opExitcm st = Literal.fstatusReset := rfl

theorem commandStatus_other (hwren : op ≠ Literal.opWren) (hexitcm : op ≠ Literal.opExitcm) :
    commandStatus op st = st :=
  (if_neg hwren).trans (if_neg hexitcm)

@[simp] theorem commandStatus_opRdid : commandStatus Literal.opRdid st = st :=
  commandStatus_other st (by decide) (by decide)

@[simp] theorem commandStatus_opRdsr (P : Params) : commandStatus P.opRdsr st = st := by
  obtain ⟨hwren, hexitcm, -⟩ := P.opRdsr_distinct
  exact commandStatus_other st hwren hexitcm

@[simp] theorem wel_withWel : wel (withWel st) = true := setBit_getLsbD st 1 1 true

end Status

/-- An opcode's effect is its effect on the status register. -/
theorem opcodeEffect_eq (P : Params) (op : Byte) (f : Flash) :
    opcodeEffect P op f = { f with fstatus := commandStatus op f.fstatus } := by
  by_cases hwren : op = Literal.opWren
  · subst hwren; rfl
  by_cases hexitcm : op = Literal.opExitcm
  · subst hexitcm; rfl
  rw [opcodeEffect_eq_id hwren hexitcm, commandStatus_other f.fstatus hwren hexitcm]; rfl

/-- What the command word `w` does to FLASH (R140). -/
def takeCommand (w : Word) (f : Flash) : Flash := opcodeEffect Config.params (opOf w) (recordCommand w f)

section Command

variable (w : Word) (f : Flash)

theorem takeCommand_eq :
    takeCommand w f = { f with lastCmd := w, fstatus := commandStatus (opOf w) f.fstatus, response := none } :=
  opcodeEffect_eq _ _ _

@[simp] theorem takeCommand_fstatus : (takeCommand w f).fstatus = commandStatus (opOf w) f.fstatus := by
  rw [takeCommand_eq]
@[simp] theorem takeCommand_lastCmd : (takeCommand w f).lastCmd = w := by rw [takeCommand_eq]
@[simp] theorem takeCommand_faulted : (takeCommand w f).faulted = f.faulted := by rw [takeCommand_eq]
@[simp] theorem takeCommand_response : (takeCommand w f).response = none := by rw [takeCommand_eq]

theorem exec_wcmd_eq_takeCommand (s : State) : exec (.wcmd w) s = .next (s.onFlash (takeCommand w)) := rfl

end Command

section ReadData

variable {P : Params} {f : Flash}

/-- A read after FL_RDID answers the sentinel (R147). -/
theorem readData_after_rdid (hop : opOf f.lastCmd = Literal.opRdid) :
    readData P f = f.answer (.word Literal.idSentinel) :=
  if_pos hop

/-- A read after FL_RDSR answers the live status, zero-extended (R147). -/
theorem readData_after_rdsr (hop : opOf f.lastCmd = P.opRdsr) :
    readData P f = f.answer (.word (0x000000#24 ++ f.fstatus)) := by
  have hrdid : opOf f.lastCmd ≠ Literal.opRdid := hop ▸ P.opRdsr_distinct.2.2
  have hextend : f.fstatus.setWidth 32 = 0x000000#24 ++ f.fstatus := BitVec.setWidth_eq_append (by decide)
  rw [← hextend]
  exact (if_neg hrdid).trans (if_pos hop)

end ReadData

/-- Settles O41: WEL is the one bit that `withWel` sets. -/
theorem writeEnableSetsTheLatchAlone : Obligations.WriteEnableSetsTheLatchAlone :=
  fun _ s => ⟨withWel s.flash.fstatus, wel_withWel _,
    fun k hk => (setBit_getLsbD s.flash.fstatus 1 k true).trans (if_neg hk), rfl⟩

/-- Settles O42: the record, then the status register's reset value. -/
theorem exitContinuousModeClearsTheStatus : Obligations.ExitContinuousModeClearsTheStatus :=
  fun arg s => exec_flExitcm s arg

/-- Settles O43: the three rows are the record with no effect after it. -/
theorem otherCommandsOnlyRecordTheWord : Obligations.OtherCommandsOnlyRecordTheWord :=
  fun arg s => ⟨exec_flRdid s arg, exec_flRdsr s arg, fun op _ _ _ _ => exec_flUnimpl s arg op⟩

/-- Settles O44: WCMD does what the word's row does, and moves the status register as the row's opcode says. -/
theorem commandWriteRecordsAndExecutes : Obligations.CommandWriteRecordsAndExecutes := by
  intro w s
  refine ⟨exec_wcmd_eq_row (opcodeRow_decodeWord Config.params w) s, commandStatus (opOf w) s.flash.fstatus, ?_,
    fun hwren => ?_, fun hexitcm => ?_, fun hwren hexitcm => ?_⟩
  · rw [exec_wcmd_eq_takeCommand, State.onFlash, takeCommand_eq]
  · have hop : opOf w = Literal.opWren := and_opcodeMask_eq_iff.mp hwren
    rw [hop, commandStatus_opWren, withWel_eq_or]
  · have hop : opOf w = Literal.opExitcm := and_opcodeMask_eq_iff.mp hexitcm
    rw [hop]; rfl
  · exact commandStatus_other _ (mt (and_opcodeMask_eq_iff (op := Literal.opWren)).mpr hwren)
      (mt (and_opcodeMask_eq_iff (op := Literal.opExitcm)).mpr hexitcm)

/-- Settles O45: a read moves the answer and the count of draws alone, and the answer is fixed after the two queries. -/
theorem readDataAnswersForTheLastCommand : Obligations.ReadDataAnswersForTheLastCommand := by
  intro s
  obtain ⟨w, n, hread⟩ := readData_cases Config.params s.flash
  have hanswer : ∀ v, readData Config.params s.flash = s.flash.answer (.word v) → w = v := by
    intro v hv
    simpa [hread] using congrArg Flash.response hv
  refine ⟨w, n, ?_, fun hop => hanswer _ (readData_after_rdid hop), fun hop => hanswer _ (readData_after_rdsr hop)⟩
  rw [exec_rdata, State.onFlash, hread]

end Sys2Proof.Machine
end

section
/-! FLASH over a run: the queries of the identifier and of the status register (R143, R144, R146, R147). -/

namespace Sys2Proof.Machine

/-- What `FL.QUERY` of the status register does to FLASH (R82, R144). -/
def queryStatus (f : Flash) : Flash := readData Config.params (takeCommand (Config.params.opRdsr.setWidth 32) f)

section Query

variable (f : Flash)

/-- A status query answers the status register as it is (R147). -/
@[simp] theorem queryStatus_response : (queryStatus f).response = some (.word (0x000000#24 ++ f.fstatus)) := by
  rw [queryStatus, readData_after_rdsr (by simp)]
  simp

@[simp] theorem queryStatus_fstatus : (queryStatus f).fstatus = f.fstatus := by simp [queryStatus]

@[simp] theorem queryStatus_faulted : (queryStatus f).faulted = f.faulted := by simp [queryStatus]

end Query

section Run

variable {s : State} (hlive : s.flash.faulted = none) (es : List HostEvent)
include hlive

/-- A command write answers nothing (R140). -/
theorem runEvents_command (w : Word) :
    runEvents (.flash (.wcmd w) :: es) s =
      ⟨none :: (runEvents es (s.onFlash (takeCommand w))).responses,
        (runEvents es (s.onFlash (takeCommand w))).final⟩ := by
  rw [runEvents_flash (g := takeCommand w) hlive rfl rfl, takeCommand_response]

theorem runEvents_readData :
    runEvents (.flash .rdata :: es) s =
      ⟨(readData Config.params s.flash).response ::
          (runEvents es (s.onFlash (readData Config.params))).responses,
        (runEvents es (s.onFlash (readData Config.params))).final⟩ :=
  runEvents_flash (g := readData Config.params) hlive rfl rfl

theorem runEvents_queryStatus :
    runEvents (flQuery Config.params.opRdsr ++ es) s =
      ⟨none :: some (.word (0x000000#24 ++ s.flash.fstatus)) :: (runEvents es (s.onFlash queryStatus)).responses,
        (runEvents es (s.onFlash queryStatus)).final⟩ := by
  have hcommand := runEvents_command hlive (.flash .rdata :: es) (Config.params.opRdsr.setWidth 32)
  rw [runEvents_readData (by simpa using hlive)] at hcommand
  rw [← queryStatus_response]
  exact hcommand

/-- A command followed by a status query answers the status that the command leaves (R141 to R145, R147). -/
theorem runEvents_commandThenQuery (op : Byte) :
    ∃ t : State, t.flash.faulted = none ∧ t.flash.fstatus = commandStatus op s.flash.fstatus ∧
      (runEvents (flCmd op ++ flQuery Config.params.opRdsr ++ es) s).responses =
        none :: none :: some (.word (0x000000#24 ++ commandStatus op s.flash.fstatus)) ::
          (runEvents es t).responses := by
  have hcommand := runEvents_command hlive (flQuery Config.params.opRdsr ++ es) (op.setWidth 32)
  rw [runEvents_queryStatus (by simpa using hlive), onFlash_flash, takeCommand_fstatus, opOf_setWidth] at hcommand
  exact ⟨(s.onFlash (takeCommand (op.setWidth 32))).onFlash queryStatus, by simpa using hlive, by simp,
    congrArg Observation.responses hcommand⟩

end Run

/-- Any number of reads leave the status register and the recorded word (R35, R146). -/
theorem readBurst_keeps_flash (n : Nat) : ∀ s : State, s.flash.faulted = none →
    (runEvents (List.replicate n (.flash .rdata)) s).final.flash.fstatus = s.flash.fstatus ∧
      (runEvents (List.replicate n (.flash .rdata)) s).final.flash.lastCmd = s.flash.lastCmd := by
  induction n with
  | zero => exact fun _ _ => ⟨rfl, rfl⟩
  | succ n ih =>
    intro s hlive
    obtain ⟨hstatus, hlast⟩ := ih (s.onFlash (readData Config.params)) (by simpa using hlive)
    rw [List.replicate_succ, runEvents_readData hlive]
    exact ⟨hstatus.trans (by simp), hlast.trans (by simp)⟩

/-- While FL_RDID is the recorded command, which no read changes, every read answers the sentinel (R143). -/
theorem readBurst_answers_sentinel (n : Nat) : ∀ s : State, s.flash.faulted = none →
    opOf s.flash.lastCmd = Literal.opRdid →
    (runEvents (List.replicate n (.flash .rdata)) s).responses =
      List.replicate n (some (.word Literal.idSentinel)) := by
  induction n with
  | zero => exact fun _ _ _ => rfl
  | succ n ih =>
    intro s hlive hop
    have htail := ih (s.onFlash (readData Config.params)) (by simpa using hlive) (by simpa using hop)
    rw [List.replicate_succ, List.replicate_succ, runEvents_readData hlive, htail, readData_after_rdid hop]
    rfl

/-- Settles O46: the word records FL_RDID and leaves the status register, and the reads keep both. -/
theorem readIdIsAnsweredWithAllOnes : Obligations.ReadIdIsAnsweredWithAllOnes := by
  intro arg n s hlive
  have hop : opOf (arg ++ 0x9F#8) = Literal.opRdid := opOf_commandWord arg Literal.opRdid
  have hlive' : (s.onFlash (takeCommand (arg ++ 0x9F#8))).flash.faulted = none := by simpa using hlive
  obtain ⟨hstatus, hlast⟩ := readBurst_keeps_flash n _ hlive'
  rw [runEvents_command hlive]
  refine ⟨?_, hstatus.trans ?_, hlast.trans (by simp)⟩
  · rw [readBurst_answers_sentinel n _ hlive' (by simpa using hop)]; rfl
  · rw [onFlash_flash, takeCommand_fstatus, hop, commandStatus_opRdid]

/-- Settles O47: each query answers the status that the command before it leaves. -/
theorem statusQueriesShowTheLatch : Obligations.StatusQueriesShowTheLatch := by
  intro s hlive
  obtain ⟨t, hlive', hset, hwren⟩ := runEvents_commandThenQuery hlive
    (flCmd Literal.opExitcm ++ flQuery Config.params.opRdsr ++ []) Literal.opWren
  obtain ⟨u, -, -, hexitcm⟩ := runEvents_commandThenQuery hlive' [] Literal.opExitcm
  rw [hexitcm, hset, commandStatus_opExitcm, commandStatus_opWren, withWel_eq_or] at hwren
  exact hwren

end Sys2Proof.Machine
end

section
/-! What moves the write-enable latch (R148). -/

namespace Sys2Proof.Machine

theorem commandStatus_clears_wel {op st : Byte} (hset : wel st = true) (hclear : wel (commandStatus op st) = false) :
    op = Literal.opExitcm := by
  by_contra hexitcm
  by_cases hwren : op = Literal.opWren
  · simp [hwren] at hclear
  · simp [commandStatus_other st hwren hexitcm, hset] at hclear

theorem commandStatus_sets_wel {op st : Byte} (hclear : wel st = false) (hset : wel (commandStatus op st) = true) :
    op = Literal.opWren := by
  by_contra hwren
  by_cases hexitcm : op = Literal.opExitcm
  · rw [hexitcm, commandStatus_opExitcm] at hset
    exact absurd hset (by decide)
  · simp [commandStatus_other st hwren hexitcm, hclear] at hset

section Flash

variable {P : Params} {f g : Flash} {e : FlashEvent} (h : FlashStep P f e g)
include h

theorem FlashStep.wel_cleared (hset : wel f.fstatus = true) (hclear : wel g.fstatus = false) :
    e = .reset ∨ ∃ w, opOf w = Literal.opExitcm ∧ writesCommand P w e := by
  cases h with
  | command w hw =>
    rw [opcodeEffect_eq] at hclear
    exact .inr ⟨w, commandStatus_clears_wel hset hclear, hw⟩
  | read => simp [hset] at hclear
  | reset => exact .inl rfl

theorem FlashStep.wel_set (hclear : wel f.fstatus = false) (hset : wel g.fstatus = true) :
    ∃ w, opOf w = Literal.opWren ∧ writesCommand P w e := by
  cases h with
  | command w hw =>
    rw [opcodeEffect_eq] at hset
    exact ⟨w, commandStatus_sets_wel hclear hset, hw⟩
  | read => simp [hclear] at hset
  | reset => exact absurd hset (by decide : wel Literal.fstatusReset ≠ true)

end Flash

/-- A step that takes an event of FLASH moves FLASH by it. -/
theorem step_flash_next {s t : State} {e : FlashEvent} {rest : List HostEvent} (hp : s.pending = .flash e :: rest)
    (h : step s = .next t) : FlashStep Config.params s.flash e t.flash := by
  obtain ⟨hnil, -⟩ | ⟨_, _, hp', -⟩ | ⟨_, _, hp', hstep, -⟩ := step_next_by_event h
  · simp [hp] at hnil
  · simp [hp] at hp'
  · rw [hp] at hp'; cases hp'; exact hstep

/-- A command write, as an event of the host. -/
theorem writesCommand.hostEvent {P : Params} {w : Word} {e : FlashEvent} (h : writesCommand P w e) :
    HostEvent.flash e = .flash (.wcmd w) ∨ HostEvent.flash e = .flash (.memWrite P.cmdOffset (.b32 w)) :=
  h.imp (congrArg _) (congrArg _)

/-- Settles O48: SENSOR's events leave the latch, and of FLASH's only the three named move it. -/
theorem writeEnableLatchMovesByItsCommandsOnly : Obligations.WriteEnableLatchMovesByItsCommandsOnly := by
  intro s t e rest hp hstep
  cases e with
  | sensor e =>
    rw [step_sensor_keeps_flash hp hstep]
    exact ⟨fun hset hclear => by simp [hset] at hclear, fun hclear hset => by simp [hclear] at hset⟩
  | flash e =>
    have hflash := step_flash_next hp hstep
    refine ⟨fun hset hclear => ?_, fun hclear hset => ?_⟩
    · obtain rfl | ⟨w, hop, hw⟩ := hflash.wel_cleared hset hclear
      · exact .inl rfl
      · exact .inr ⟨w, hop, hw.hostEvent⟩
    · obtain ⟨w, hop, hw⟩ := hflash.wel_set hclear hset
      exact ⟨w, hop, hw.hostEvent⟩

end Sys2Proof.Machine
end

section
/-! FLASH has no serial transport (R149). -/

namespace Sys2Proof.Machine

/-- Settles O50: CS and FINISH are rows whose meaning refuses FLASH, and XFER has no meaning there. -/
theorem flashRefusesTheSerialTransport : Obligations.FlashRefusesTheSerialTransport := by
  refine ⟨fun s => ⟨rfl, rfl, rfl⟩, fun s e rest hp hlive he => ?_⟩
  have hstep : step s = .refused .flashSerial := by
    obtain ⟨level, rfl⟩ | rfl | ⟨b, rfl⟩ := he
    · cases level <;> exact step_run hp hlive rfl
    · exact step_run hp hlive rfl
    · exact step_rejected hp hlive rfl
  exact ⟨hstep, afterStep_refused hp hstep⟩

end Sys2Proof.Machine
end

section
/-! What stops an instance (R160, R161), and what the state holds after a fault (R162, R166). -/

namespace Sys2Proof.Machine

variable {s : State} {r : Refusal}

/-- SENSOR gives every event of its own a meaning: it refuses none (R161). -/
theorem exec_sensorEvent_not_refused (e : SensorEvent) : exec (decodeSensorEvent s.sensor.phase e) s ≠ .refused r := by
  cases e with
  | xfer b =>
    obtain ⟨f, hf⟩ := exec_decodeByte_eq_deliverByte b s
    rw [decodeSensorEvent, hf, deliverByte]
    split <;> nofun
  | cs level => cases level <;> nofun
  | finish | setacc | seten | getsens | reset => nofun

/-- FLASH refuses what decoding rejects and the serial transport, each for its reason of R161. -/
theorem step_flash_refused {e : FlashEvent} {rest : List HostEvent} (hp : s.pending = .flash e :: rest)
    (hlive : s.flash.faulted = none) (h : step s = .refused r) : r = .flashSerial ∨ r = .flashAccess := by
  cases hd : decodeFlashEvent Config.params e with
  | reject q =>
    obtain rfl := Host.Outcome.refused.inj ((step_rejected hp hlive hd).symm.trans h)
    cases q with
    | flashSerial => exact .inl rfl
    | flashAccess => exact .inr rfl
  | instr i =>
    rw [step_run hp hlive hd] at h
    obtain ⟨g, hnext⟩ | hrefused := exec_flashEvent_cases hd
    · rw [hnext] at h; cases h
    · exact .inl (Host.Outcome.refused.inj (h.symm.trans (hrefused _)))

/-- Settles O54: SENSOR's events by the row each decodes to, FLASH's by what their step can be. -/
theorem eachInstanceStopsForItsOwnReasonsOnly : Obligations.EachInstanceStopsForItsOwnReasonsOnly := by
  intro s e rest hp hlive
  cases e with
  | sensor e =>
    refine ⟨fun _ r => ?_, nofun⟩
    rw [step_run hp hlive rfl]
    exact exec_sensorEvent_not_refused (s := { s with pending := rest }) e
  | flash e => exact ⟨nofun, fun _ => ⟨fun _ => step_flash_not_fault hp hlive, fun _ => step_flash_refused hp hlive⟩⟩

/-- Settles O55: the trap entry marks SENSOR and touches nothing else. -/
theorem faultAppliesNothingOfItsEvent : Obligations.FaultAppliesNothingOfItsEvent :=
  fun _ _ _ _ hp hfault => afterStep_fault hp hfault

/-- Settles O57: the mark is checked before the event is decoded, and to set it again moves nothing. -/
theorem faultedInstanceAnswersItsFault : Obligations.FaultedInstanceAnswersItsFault :=
  fun _ _ _ _ hp hmark => ⟨step_dead hp hmark, afterStep_dead hp hmark⟩

end Sys2Proof.Machine
end

section
/-! Faults and refusals over a run (R36, R66, R162): to an observer of one instance, a run is the run of that instance's
own events, and no event moves a faulted instance. -/

namespace Sys2Proof.Machine

/-- Where a step is the same to `view` as another, so are the states after them, if the two marks are. -/
theorem SameTo.afterStep_eq {α : Type} {view : State → α} {s s' : State} {e : HostEvent} {rest rest' : List HostEvent}
    (h : SameTo view (step s) (step s')) (hp : s.pending = e :: rest) (hp' : s'.pending = e :: rest')
    (hfault : ∀ r, view (takeFault e.target r { s' with pending := rest' }) =
      view (takeFault e.target r { s with pending := rest }))
    (hrefused : view (takeRefusal { s' with pending := rest' }) = view (takeRefusal { s with pending := rest })) :
    view (afterStep s') = view (afterStep s) := by
  obtain ⟨onNext, onFault, onRefused⟩ := h.outcomes
  cases hstep : step s with
  | next t =>
    obtain ⟨t', hstep', hview⟩ := onNext t hstep
    rw [afterStep_next hp hstep, afterStep_next hp' hstep', hview]
  | fault r => rw [afterStep_fault hp hstep, afterStep_fault hp' (onFault r hstep), hfault]
  | refused r => rw [afterStep_refused hp hstep, afterStep_refused hp' (onRefused r hstep), hrefused]

/-- `view` observes the instance `k` and nothing else: it shows the mark of `k`, an event of `k` moves it as a function
of what it shows, and no other event moves it (R66). -/
structure Observes {α : Type} (view : State → α) (k : Instance) : Prop where
  pending : ∀ (es : List HostEvent) (s : State), view { s with pending := es } = view s
  mark : ∀ {s s' : State}, view s' = view s → s'.faultOf k = s.faultOf k
  own : ∀ {s s' : State} {e : HostEvent} {rest rest' : List HostEvent}, s.pending = e :: rest →
    s'.pending = e :: rest' → e.target = k → view s' = view s → view (afterStep s') = view (afterStep s)
  other : ∀ {s : State} {e : HostEvent} {rest : List HostEvent}, s.pending = e :: rest → e.target ≠ k →
    view (afterStep s) = view s

theorem afterStep_sensorEvent_keeps_flash {s : State} {e : SensorEvent} {rest : List HostEvent}
    (hp : s.pending = .sensor e :: rest) : (afterStep s).flash = s.flash := by
  cases hstep : step s with
  | next t => rw [afterStep_next hp hstep, step_sensor_keeps_flash hp hstep]
  | fault r => rw [afterStep_fault hp hstep]; rfl
  | refused r => rw [afterStep_refused hp hstep]; rfl

theorem afterStep_flashEvent_keeps_sensor {s : State} {e : FlashEvent} {rest : List HostEvent}
    (hp : s.pending = .flash e :: rest) : (afterStep s).sensor = s.sensor := by
  cases hstep : step s with
  | next t => rw [afterStep_next hp hstep, step_flash_keeps_sensor hp hstep]
  | fault r => rw [afterStep_fault hp hstep]; rfl
  | refused r => rw [afterStep_refused hp hstep]; rfl

theorem observes_sensor : Observes State.sensor .sensor where
  pending _ _ := rfl
  mark h := congrArg Sensor.faulted h
  own {s s' e _ _} hp hp' he hx := by
    cases e with
    | sensor e =>
      exact (step_sameTo_sensor hx.symm hp hp').afterStep_eq hp hp'
        (fun r => congrArg (fun x => { x with faulted := some r }) hx) hx
    | flash e => cases he
  other {s e _} hp he := by
    cases e with
    | sensor e => exact absurd rfl he
    | flash e => exact afterStep_flashEvent_keeps_sensor hp

theorem observes_flash : Observes State.flash .flash where
  pending _ _ := rfl
  mark h := congrArg Flash.faulted h
  own {s s' e _ _} hp hp' he hx := by
    cases e with
    | sensor e => cases he
    | flash e =>
      exact (step_sameTo_flash hx.symm hp hp').afterStep_eq hp hp'
        (fun r => congrArg (fun x => { x with faulted := some r }) hx) hx
  other {s e _} hp he := by
    cases e with
    | sensor e => exact afterStep_sensorEvent_keeps_flash hp
    | flash e => exact absurd rfl he

section Run

variable {α : Type} {view : State → α} {k : Instance} (hview : Observes view k)
include hview

/-- Over any run, an instance ends as its own events alone leave it, beside any other state of the other one (R66). -/
theorem Observes.run_eq_own_events (es : List HostEvent) : ∀ s s' : State, view s' = view s →
    view (runEvents es s).final = view (runEvents (es.filter fun e => decide (e.target = k)) s').final := by
  induction es with
  | nil => exact fun s s' h => (hview.pending [] s).trans (h.symm.trans (hview.pending [] s').symm)
  | cons e es ih =>
    intro s s' h
    rw [runEvents_final_cons]
    by_cases he : e.target = k
    · rw [List.filter_cons_of_pos (by simpa using he), runEvents_final_cons]
      exact ih _ _ (hview.own rfl rfl he (((hview.pending _ s').trans h).trans (hview.pending _ s).symm))
    · rw [List.filter_cons_of_neg (by simpa using he)]
      exact ih _ _ (h.trans ((hview.other rfl he).trans (hview.pending _ s)).symm)

/-- No step moves a faulted instance, whichever instance its event goes to (R162). -/
theorem Observes.afterStep_faulted {s : State} (hf : s.faultOf k ≠ none) : view (afterStep s) = view s := by
  cases hp : s.pending with
  | nil => rw [afterStep_nil hp]
  | cons e rest =>
    by_cases he : e.target = k
    · obtain ⟨r, hr⟩ := Option.ne_none_iff_exists'.mp hf
      rw [afterStep_dead hp (he ▸ hr), hview.pending]
    · exact hview.other hp he

/-- A faulted instance stays as it is over any run (R162). -/
theorem Observes.run_faulted {s : State} (hf : s.faultOf k ≠ none) (es : List HostEvent) :
    view (runEvents es s).final = view s :=
  observe_invariant (I := fun t => view t = view s)
    (fun _ ht => (hview.afterStep_faulted (hview.mark ht ▸ hf)).trans ht) es.length _ (hview.pending es s)

end Run

/-- No step clears the run's refusal mark (R36). -/
theorem afterStep_refused_sticky {s : State} (h : s.refused = true) : (afterStep s).refused = true := by
  cases hp : s.pending with
  | nil => rwa [afterStep_nil hp]
  | cons e rest =>
    cases hstep : step s with
    | next t =>
      obtain ⟨hnil, -⟩ | ⟨_, _, _, -, -, -, hexec⟩ := step_next_cases hstep
      · simp [hp] at hnil
      · rw [afterStep_next hp hstep, (exec_next_rest hexec).2]; exact h
    | fault r => rw [afterStep_fault hp hstep, takeFault_refused]; exact h
    | refused r => rw [afterStep_refused hp hstep, takeRefusal_refused]

/-- Settles O56: both clauses of an instance are those of its observer, and the refusal mark is an invariant. -/
theorem faultsAndRefusalsAreFinal : Obligations.FaultsAndRefusalsAreFinal :=
  fun es s =>
    ⟨fun hf => ⟨observes_sensor.run_faulted hf es, fun s' => observes_flash.run_eq_own_events es s s'⟩,
      fun hf => ⟨observes_flash.run_faulted hf es, fun s' => observes_sensor.run_eq_own_events es s s'⟩,
      fun h => observe_invariant (I := fun t => t.refused = true) (fun _ => afterStep_refused_sticky) es.length _ h⟩

end Sys2Proof.Machine
end

section
/-! Power-down (R171): a CTRL4 write with RATE = 0 clears the flags alone, and no transaction is stopped by it. -/

namespace Sys2Proof.Machine

/-- Settles O34: the flags are DA of a CTRL4 in power-down, and an OUT register's code reads no field that moved. -/
theorem powerDownClearsTheFlagsAlone : Obligations.PowerDownClearsTheFlagsAlone := by
  intro d s hsel hwriting htarget hrate
  have hexec := exec_spiDataWr_writing d hsel hwriting
  have hctrl5 : s.sensor.target ≠ Config.params.addr .ctrl5 :=
    fun h => nomatch Config.params.addr_inj _ _ (htarget.symm.trans h)
  rw [State.onSensor, dataWrite_eq, if_pos htarget, if_neg hctrl5] at hexec
  refine ⟨_, _, _, ?_, fun k hk => recomputed_other _ _ hk, hexec, fun a h => ?_⟩
  · rw [flagsOf_recomputed, dataAvailable_powerDown (rate_eq_zero_iff.mpr hrate)]
  · rw [sregRead_out, sregRead_out]
    exact congrArg (halfOf h) (rawCode_congr rfl rfl)

/-- What SENSOR holds at the end `t` of a write burst into `x` whose last byte is `v` (R113, R114). -/
structure EndsBurst (v : Byte) (x t : Sensor) : Prop where
  ctrl4 : t.ctrl4 = if x.target = Config.params.addr .ctrl4 then v else x.ctrl4
  ctrl5 : t.ctrl5 = if x.target = Config.params.addr .ctrl5 then v else x.ctrl5
  fresh : t.flagsFresh Config.params
  mark : t.faulted = x.faulted

/-- A burst of one byte, then a deselection. -/
theorem endsBurst_single (v : Byte) (x : Sensor) : EndsBurst v x (deselect (dataWrite Config.params v x)) where
  ctrl4 := dataWrite_ctrl4 ..
  ctrl5 := dataWrite_ctrl5 ..
  fresh := by rw [dataWrite_eq]; exact flagsOf_recomputed ..
  mark := dataWrite_faulted ..

/-- A byte before the last one leaves nothing that the last one does not overwrite. -/
theorem EndsBurst.cons {d v : Byte} {x t : Sensor} (h : EndsBurst v (dataWrite Config.params d x) t) :
    EndsBurst v x t where
  ctrl4 := by rw [h.ctrl4, dataWrite_target, dataWrite_ctrl4]; split <;> rfl
  ctrl5 := by rw [h.ctrl5, dataWrite_target, dataWrite_ctrl5]; split <;> rfl
  fresh := h.fresh
  mark := h.mark.trans (dataWrite_faulted ..)

theorem spiWrite_eq (a : Addr7) (ds : List Byte) :
    spiWrite a ds =
      .sensor (.cs true) :: .sensor (.xfer (addressByte false a)) :: (burst ds ++ [.sensor (.cs false)]) := rfl

/-- A write burst of any length runs to its end, the last byte winning (R111, R113). -/
theorem runEvents_writeBurst (ds : List Byte) (v : Byte) : ∀ s : State, s.sensor.faulted = none →
    s.sensor.sel = true → s.sensor.phase = .writing →
    EndsBurst v s.sensor (runEvents (burst (ds ++ [v]) ++ [.sensor (.cs false)]) s).final.sensor := by
  induction ds with
  | nil =>
    intro s hlive hsel hwriting
    obtain ⟨r, (hrun : runEvents (burst [v] ++ [HostEvent.sensor (.cs false)]) s = _)⟩ :=
      runEvents_writeByte hlive hsel v [.sensor (.cs false)] hwriting
    have hend := runEvents_deassertion (s := s.onSensor (dataWrite Config.params v)) (by simpa using hlive) []
    rw [List.nil_append, hrun, hend]
    exact endsBurst_single v s.sensor
  | cons d ds ih =>
    intro s hlive hsel hwriting
    obtain ⟨r, hrun⟩ := runEvents_writeByte hlive hsel d (burst (ds ++ [v]) ++ [.sensor (.cs false)]) hwriting
    rw [List.cons_append, burst_cons, List.cons_append, hrun]
    exact (ih (s.onSensor (dataWrite Config.params d)) (by simpa using hlive) (by simpa using hsel)
      (by simpa using hwriting)).cons

/-- A write transaction from Idle: the burst finds it open (R82, R90, R95). -/
theorem runEvents_spiWrite {s : State} (hlive : s.sensor.faulted = none) (hidle : s.sensor.phase = .idle) (a : Addr7)
    (ds : List Byte) (v : Byte) :
    EndsBurst v (startTransaction false a s.sensor) (runEvents (spiWrite a (ds ++ [v])) s).final.sensor := by
  obtain ⟨r, hstart⟩ := runEvents_startTransaction hlive hidle a (burst (ds ++ [v]) ++ [.sensor (.cs false)]) false
  rw [spiWrite_eq, hstart]
  exact runEvents_writeBurst ds v (s.onSensor (startTransaction false a)) (by simpa using hlive) (by simp) (by simp)

/-- Settles O58: RATE stands in the way of no read and no write, whatever it is; the transaction runs as ever. -/
theorem powerDownStopsNothing : Obligations.PowerDownStopsNothing := by
  intro a s hlive _
  constructor
  · obtain ⟨r, hread⟩ := runEvents_spiRead_one (s := s.onSensor deselect) hlive rfl a []
    have hsame : sregRead Config.params a (deselect s.sensor) = sregRead Config.params a s.sensor :=
      sregRead_congr rfl rfl rfl rfl a
    refine ⟨r, ?_⟩
    rw [runEvents_deassertion hlive, ← List.append_nil (spiRead a 1), hread, onSensor_sensor, hsame]
    rfl
  · intro ds v t
    have hend := runEvents_spiWrite (s := s.onSensor deselect) hlive rfl a ds v
    have ht : t = (runEvents (spiWrite a (ds ++ [v])) (s.onSensor deselect)).final.sensor :=
      congrArg (·.final.sensor) (runEvents_deassertion hlive _)
    rw [← ht, startTransaction_eq] at hend
    exact ⟨hend.ctrl4, hend.ctrl5, hend.fresh, hend.mark.trans hlive⟩

end Sys2Proof.Machine
end

section
/-! Reset (R180, R181): RESET of an instance from any state, and the power-on state beside it. -/

namespace Sys2Proof.Machine

variable {P : Params}

theorem statusAtReset_of_literal (h : P.resetPolicy = .literal) : statusAtReset P = Literal.statusReset := by
  rw [statusAtReset, h]

theorem statusAtReset_of_recomputed (h : P.resetPolicy = .recomputed) :
    statusAtReset P = recomputed P Literal.ctrl4Reset Literal.statusReset := by
  rw [statusAtReset, h]

/-- RESET of SENSOR forgets all of the state but the fault mark and the count of draws (R180). -/
theorem resetSensor_eq_with_drawn {x y : Sensor} (h : x.faulted = y.faulted) :
    { resetSensor P x with
      target := (resetSensor P y).target, axis := (resetSensor P y).axis, draws := (resetSensor P y).draws } =
    resetSensor P y := by
  simp only [resetSensor, h]

/-- RESET of FLASH forgets all of the state but the fault mark and the count of draws (R180). -/
theorem resetFlash_eq_with_draws {f g : Flash} (h : f.faulted = g.faulted) :
    { resetFlash f with draws := (resetFlash g).draws } = resetFlash g := by
  simp only [resetFlash, h]

/-- FLASH after reset is a fixed point of RESET (R40, R181). -/
theorem reset_flash_eq : State.reset.flash = resetFlash State.reset.flash := rfl

/-- Settles O4: STATUS by the policy, the axis values in range by SENSOR's invariant, the rest by computation. -/
theorem resetOfSensorRestoresItsRegisters : Obligations.ResetOfSensorRestoresItsRegisters := fun s =>
  let x := resetSensor Config.params s.sensor
  ⟨x.target, x.axis, x.draws, x.status, resetSensor_inv.axis_in_range, statusAtReset_of_literal,
    statusAtReset_of_recomputed, exec_reset_sensor s⟩

/-- Settles O5: the instruction's law, with the reset literals written out. -/
theorem resetOfFlashClearsStatusAndCommand : Obligations.ResetOfFlashClearsStatusAndCommand :=
  fun s => exec_reset_flash s

/-- Settles O6: the power-on state of an instance is itself what RESET makes of an unfaulted one, and RESET of any other
unfaulted state differs from that in drawn values and counters alone. -/
theorem resetGivesThePowerOnState : Obligations.ResetGivesThePowerOnState := by
  intro s
  constructor
  · intro hlive
    refine ⟨_, exec_reset_sensor s, ?_⟩
    rw [reset_sensor_eq]
    exact resetSensor_eq_with_drawn hlive
  · intro hlive
    refine ⟨_, exec_reset_flash s, ?_⟩
    rw [reset_flash_eq]
    exact resetFlash_eq_with_draws hlive

end Sys2Proof.Machine
end
